-- ==== Sys2Proof/Word.lean ====
section
/-! DEFINITION. The word types: a byte of the wire and of the buffers (00 R7), the coverage mask
(10 R15) and an event code (30 R60). -/

namespace Sys2Proof

/-- A byte: 8 bits, bit 7 most significant (00 R7). -/
abbrev Byte := BitVec 8

/-- The coverage mask of an ESCAPE byte: `N_ESC` = 4 bits (10 R15, 30 R51). -/
abbrev Mask := BitVec 4

/-- An event code: an EVW-bit identity, only ever compared (30 R60, 43 R105).
EVW is a parameter, so a code is a number, and its bound `2 ^ EVW` is part of well-formedness
(log entry 12). -/
abbrev EventCode := Nat

end Sys2Proof
end

