-- ==== Sys2Proof/Config.lean ====
section
/-! DEFINITION. The construction parameters of 00 R6, their constraints and defaults, and the one
function of Config the spec leaves to the integrator: a pluggable check. -/

namespace Sys2Proof

/-- A pluggable check, 40 R72: "The block is parameterised by this function and assumes of it only
that it is total and depends on s alone".
It has no body, so nothing is known of it but that it is a function (log entry 3). -/
opaque Config.pluggedCrc : Nat → List Byte → Byte

/-- The choice of `CRC_FN` (00 R6): the default CRC-8 of 40 R72, or the `k`-th pluggable check. -/
inductive CrcChoice where
  | crc8
  | plugged (k : Nat)
  deriving DecidableEq, Repr

/-- The implementation parameters of 00 R6 but for `N_ESC`, which the ESCAPE layout fixes at 4. -/
structure Params where
  /-- PAYLOAD_CAP: the largest legal payload length. -/
  payloadCap : Nat
  /-- RX_CAP: the capacity of `rx_buf`. -/
  rxCap : Nat
  /-- TX_CAP: the capacity of `tx_buf`. -/
  txCap : Nat
  /-- EV_CAP: the number of slots of the event stack. -/
  evCap : Nat
  /-- EVW: the width of an event code in bits. -/
  evWidth : Nat
  /-- CRC_FN: the pluggable check. -/
  crc : CrcChoice
  /-- STRICT_LENGTH: whether the stored byte count is compared at TAIL. -/
  strictLength : Bool
  deriving DecidableEq, Repr

/-- N_ESC: the bytes covered by one ESCAPE byte (00 R6: "fixed at 4 by the ESCAPE byte layout"). -/
def nEsc : Nat := 4

/-- The constraints of 00 R6's table. -/
structure Params.Legal (p : Params) : Prop where
  payload : p.payloadCap ≤ 191
  rx : 2 ≤ p.rxCap
  txLow : 4 ≤ p.txCap
  txHigh : p.txCap ≤ 255
  ev : 2 ≤ p.evCap
  width : 2 ≤ p.evWidth

/-- The default RX_CAP of a payload capacity (00 R6). -/
def defaultRxCap (payloadCap : Nat) : Nat := payloadCap + 3

/-- The default TX_CAP of a payload capacity (00 R6):
`4 + (PAYLOAD_CAP+1) + ceil((PAYLOAD_CAP+1)/4)`. -/
def defaultTxCap (payloadCap : Nat) : Nat := 4 + (payloadCap + 1) + (payloadCap + 1 + 3) / 4

/-- The default column of 00 R6. -/
def Params.default : Params where
  payloadCap := 64
  rxCap := defaultRxCap 64
  txCap := defaultTxCap 64
  evCap := 8
  evWidth := 8
  crc := .crc8
  strictLength := true

end Sys2Proof
end

