-- ==== Sys2Proof/Syntax.lean ====
section
/-! DEFINITION. The operations: one constructor per row of spec/opcode_table.json, and the form in
which the environment hands an operation to the block. -/

namespace Sys2Proof

/-- One constructor per row of the opcode table.
The first seven are a byte received from the wire, by class (30 R47), each holding the bits its
class leaves free; the rest are the operations by select code (00 R8). -/
inductive Instr where
  /-- DATA_LO `0xxxxxxx`: the low seven bits of the datum. -/
  | dataLo (d : BitVec 7)
  /-- DATA_HI `10xxxxxx`: the low six bits of the datum. -/
  | dataHi (d : BitVec 6)
  /-- TAIL `110000ce`. -/
  | tail (c e : Bool)
  /-- HEAD `110001ce`. -/
  | head (c e : Bool)
  /-- UNKNOWN_A `11001xxx`. -/
  | unknownA (x : BitVec 3)
  /-- ESCAPE `1101mmmm`. -/
  | escape (m : Mask)
  /-- UNKNOWN_B `111xxxxx`. -/
  | unknownB (x : BitVec 5)
  /-- RESET, select 0b000. -/
  | reset
  /-- RX_BYTE, select 0b001. -/
  | rxByte (b : Byte)
  /-- ENCODE, select 0b010. The operand L is the number of payload bytes, carried as a byte of its
  own in the words of the operation (log entry 8). -/
  | encode (cmd : Byte) (e c : Bool) (payload : List Byte)
  /-- EV_PUSH, select 0b011. -/
  | evPush (code : EventCode)
  /-- EV_POP, select 0b100. -/
  | evPop
  /-- ERR_CLEAR, select 0b101. -/
  | errClear
  /-- Unassigned select code 0b110. -/
  | opReserved6
  /-- Unassigned select code 0b111. -/
  | opReserved7
  deriving DecidableEq, Repr

/-- What the environment hands to the block (44 R117): a byte from the wire, by byte intake, or an
operation select of 3 bits with its operand bytes (log entries 5 and 6). -/
inductive Request where
  | wire (b : Byte)
  | op (select : BitVec 3) (operands : List Byte)
  deriving DecidableEq, Repr

/-- Why a request is no operation at all: its operands do not have the form of its select code. -/
inductive Reject where
  /-- Too few or too many operand bytes, or a payload of another length than L. -/
  | operandCount
  /-- A bit of ENCODE's flag byte other than C and E is set. -/
  | flagBits
  /-- An event code that EVW bits cannot hold. -/
  | eventCodeWidth
  deriving DecidableEq, Repr

end Sys2Proof
end

