-- ==== Sys2Proof/WellFormed.lean ====
section
/-! DEFINITION. Which terms of Instr are operations the interface can carry: every operand within
its width (00 R8). -/

namespace Sys2Proof

/-- ENCODE's L is one byte, so a payload has at most 255 bytes (41 R75); an event code has EVW bits
(43 R105). The other operands have their widths by type. -/
def wellFormed (p : Params) : Instr → Bool
  | .dataLo _ => true
  | .dataHi _ => true
  | .tail _ _ => true
  | .head _ _ => true
  | .unknownA _ => true
  | .escape _ => true
  | .unknownB _ => true
  | .reset => true
  | .rxByte _ => true
  | .encode _ _ _ payload => payload.length < 256
  | .evPush code => code < 2 ^ p.evWidth
  | .evPop => true
  | .errClear => true
  | .opReserved6 => true
  | .opReserved7 => true

end Sys2Proof
end

