-- ==== Sys2Proof/Decode.lean ====
section
/-! DEFINITION. From a request to the operation it is, total, rejecting by name; then the encoder,
from the same tables. Wire bytes: 30 R47. Select codes: 00 R8. The layout of operand bytes is the
model's own (log entry 5). -/

namespace Sys2Proof

/-! ### Wire bytes -/

/-- The wire byte's row of 30 R47, `match`/`mask` in the table's order; the last row is what is
left, `111xxxxx`. -/
def decodeWire (b : Byte) : Instr :=
  if b &&& 0x80 = 0x00 then .dataLo (b.extractLsb' 0 7)
  else if b &&& 0xC0 = 0x80 then .dataHi (b.extractLsb' 0 6)
  else if b &&& 0xFC = 0xC0 then .tail b[1] b[0]
  else if b &&& 0xFC = 0xC4 then .head b[1] b[0]
  else if b &&& 0xF8 = 0xC8 then .unknownA (b.extractLsb' 0 3)
  else if b &&& 0xF0 = 0xD0 then .escape (b.extractLsb' 0 4)
  else .unknownB (b.extractLsb' 0 5)

/-! ### Operand bytes -/

/-- How many operand bytes an event code of EVW bits takes. -/
def eventBytes (p : Params) : Nat := (p.evWidth + 7) / 8

/-- The number that bytes hold, lowest byte first. -/
def natOfBytes : List Byte → Nat
  | [] => 0
  | b :: bs => b.toNat + 256 * natOfBytes bs

/-- `n` bytes of a number, lowest byte first. -/
def bytesOfNat : Nat → Nat → List Byte
  | 0, _ => []
  | n + 1, v => BitVec.ofNat 8 v :: bytesOfNat n (v / 256)

/-- ENCODE's flag byte: C in bit 1 and E in bit 0, as in a HEAD byte (30 R49). -/
def flagByte (e c : Bool) : Byte := 0#6 ++ BitVec.ofBool c ++ BitVec.ofBool e

/-- An operation with no operands. -/
def decodeBare (i : Instr) : List Byte → Except Reject Instr
  | [] => .ok i
  | _ :: _ => .error .operandCount

/-- RX_BYTE: the received byte. -/
def decodeRxByte : List Byte → Except Reject Instr
  | [b] => .ok (.rxByte b)
  | _ => .error .operandCount

/-- ENCODE: `cmd`, the flag byte, L, then L payload bytes. -/
def decodeEncode : List Byte → Except Reject Instr
  | cmd :: flags :: len :: payload =>
    if flags.extractLsb' 2 6 ≠ 0 then .error .flagBits
    else if payload.length ≠ len.toNat then .error .operandCount
    else .ok (.encode cmd flags[0] flags[1] payload)
  | _ => .error .operandCount

/-- EV_PUSH: the event code, lowest byte first. -/
def decodeEvPush (p : Params) (operands : List Byte) : Except Reject Instr :=
  if operands.length ≠ eventBytes p then .error .operandCount
  else if natOfBytes operands < 2 ^ p.evWidth then .ok (.evPush (natOfBytes operands))
  else .error .eventCodeWidth

/-- The select codes of 00 R8. The two unassigned ones are ignored, whatever bytes come with them. -/
def decodeSelect (p : Params) (select : BitVec 3) (operands : List Byte) : Except Reject Instr :=
  match select with
  | 0 => decodeBare .reset operands
  | 1 => decodeRxByte operands
  | 2 => decodeEncode operands
  | 3 => decodeEvPush p operands
  | 4 => decodeBare .evPop operands
  | 5 => decodeBare .errClear operands
  | 6 => .ok .opReserved6
  | 7 => .ok .opReserved7

/-- The operation a request is. -/
def decode (p : Params) : Request → Except Reject Instr
  | .wire b => .ok (decodeWire b)
  | .op select operands => decodeSelect p select operands

/-! ### The encoder -/

/-- The request that hands a well-formed operation to the block: patterns of 30 R47, codes of
00 R8. -/
def encode (p : Params) : Instr → Request
  | .dataLo d => .wire (0b0#1 ++ d)
  | .dataHi d => .wire (0b10#2 ++ d)
  | .tail c e => .wire (0b110000#6 ++ BitVec.ofBool c ++ BitVec.ofBool e)
  | .head c e => .wire (0b110001#6 ++ BitVec.ofBool c ++ BitVec.ofBool e)
  | .unknownA x => .wire (0b11001#5 ++ x)
  | .escape m => .wire (0b1101#4 ++ m)
  | .unknownB x => .wire (0b111#3 ++ x)
  | .reset => .op 0b000 []
  | .rxByte b => .op 0b001 [b]
  | .encode cmd e c payload =>
    .op 0b010 (cmd :: flagByte e c :: BitVec.ofNat 8 payload.length :: payload)
  | .evPush code => .op 0b011 (bytesOfNat (eventBytes p) code)
  | .evPop => .op 0b100 []
  | .errClear => .op 0b101 []
  | .opReserved6 => .op 0b110 []
  | .opReserved7 => .op 0b111 []

/-! ### The opcode table's own numbering -/

/-- The operand bytes of a select code, taken from the bits above the select byte, those above the
word zero: as many as the operation has. -/
def tableOperands (p : Params) (select : BitVec 3) (rest : Nat) : List Byte :=
  match select with
  | 1 => bytesOfNat 1 rest
  | 2 => bytesOfNat (3 + (rest / 65536) % 256) rest
  | 3 => bytesOfNat (eventBytes p) rest
  | _ => []

/-- The request a row's word stands for.
The table has two encoding spaces, 3-bit select codes and 8-bit wire bytes, and a word alone does
not say which it is of: a row of under 8 bits, or a first byte under 8, is a select code, and any
other byte is a wire byte (log entry 7). -/
def tableRequest (p : Params) (nbits w : Nat) : Request :=
  let v := w % 2 ^ nbits
  if nbits < 8 ∨ v % 256 < 8 then
    .op (BitVec.ofNat 3 v) (tableOperands p (BitVec.ofNat 3 v) (v / 256))
  else .wire (BitVec.ofNat 8 v)

/-- The operation this decoder reads from a row's word. -/
def decodeTableWord (nbits w : Nat) : Option Instr :=
  match decode Params.default (tableRequest Params.default nbits w) with
  | .ok i => some i
  | .error _ => none

end Sys2Proof
end

