-- ==== Sys2Proof/Machine/State.lean ====
section
/-! DEFINITION. The state of the block (10 R10), with the construction parameters and the two ports
to the environment beside it, and its reset value (10 R28). -/

namespace Sys2Proof.Machine

/-- A byte array (20 R30) in canonical form: indices strictly rising, no entry equal to what an
unlisted index reads as, the reset value 0x00 (10 R28). -/
abbrev Memory := List Host.Cell

/-- The event stack's slots, in the same form; an unlisted slot reads Idle (10 R28). -/
abbrev Slots := List (Nat × EventCode)

/-- ENCODE's result codes (30 R61). -/
inductive EncodeResult where
  | ok
  | badCommand
  | tooLarge
  deriving DecidableEq, Repr

/-- EV_PUSH's result codes (30 R61). -/
inductive PushResult where
  | stored
  | dup
  | full
  deriving DecidableEq, Repr

/-- What an operation returns to its caller (00 R8). -/
inductive Result where
  /-- The operation has no result. -/
  | none
  | encode (r : EncodeResult)
  | push (r : PushResult)
  | event (code : EventCode)
  deriving DecidableEq, Repr

/-- The state elements of 10 R10; `params`, `result` and `pending` are the model's own (log entries
1, 2 and 4). -/
structure State where
  /-- The construction parameters (00 R6); no step changes them. -/
  params : Params
  rxBuf : Memory
  rxLen : Nat
  rxMask : Mask
  rxActive : Bool
  /-- `rx_head.C`. -/
  rxHeadC : Bool
  /-- `rx_head.E`. -/
  rxHeadE : Bool
  pktValid : Bool
  pktCmd : Byte
  pktLen : Byte
  /-- `pkt_order`: the byte-order tag E of the decoded packet. -/
  pktOrder : Bool
  /-- `pkt_crc`: the CRC-present bit C of the decoded packet. -/
  pktCrc : Bool
  txBuf : Memory
  txLen : Nat
  stk : Slots
  sp : Nat
  errRxOvf : Bool
  errEvFull : Bool
  /-- What the operation applied last returned. -/
  result : Result
  /-- The operations the environment has yet to apply, the next one first. -/
  pending : List Request
  deriving DecidableEq, Repr

/-- No operation faults (60 R135: "the step function of the block never returns a fault or a stuck
outcome"; R149: "*Fault*: none"), so there is no fault to name (log entry 18). -/
inductive Fault where
  deriving DecidableEq, Repr

/-- Why a step has no meaning. -/
inductive Refusal where
  /-- An operation of the table with no meaning in `exec`; no arm answers it. Safe. -/
  | notModelled (mnemonic : String)
  /-- Raised by `step` alone, on a request that is no operation: its operand bytes do not have the
  form of its select code, which the block's interface cannot carry (log entry 5). Safe. -/
  | malformedRequest (why : Reject)
  deriving DecidableEq, Repr

/-- The reset table of 10 R28 for a block built with parameters `p`. -/
def State.init (p : Params) : State where
  params := p
  rxBuf := []
  rxLen := 0
  rxMask := 0
  rxActive := false
  rxHeadC := false
  rxHeadE := false
  pktValid := false
  pktCmd := 0
  pktLen := 0
  pktOrder := false
  pktCrc := false
  txBuf := []
  txLen := 0
  stk := []
  sp := 0
  errRxOvf := false
  errEvFull := false
  result := .none
  pending := []

/-- The block with the default parameters of 00 R6, right after RESET (70 R155;
log entries 2 and 13). -/
def State.reset : State := State.init Params.default

end Sys2Proof.Machine
end

