-- ==== Sys2Proof/Machine/Flags.lean ====
section
/-! DEFINITION. The two sticky flags (10 R23), the event codes (30 R60) and the result codes
(30 R61). -/

namespace Sys2Proof.Machine

/-- `Idle` (30 R60): what EV_POP returns for an empty stack. -/
def idle : EventCode := 0

/-- `RequestReceived` (30 R60): pushed by the decoder on every accepted frame. -/
def requestReceived : EventCode := 1

/-- `TransmitConfirmed` (30 R60): pushed by the transport's notifier through EV_PUSH. -/
def transmitConfirmed : EventCode := 2

/-- The 2-bit code of an ENCODE result (30 R61). -/
def EncodeResult.code : EncodeResult → BitVec 2
  | .ok => 0
  | .badCommand => 1
  | .tooLarge => 2

/-- The 2-bit code of an EV_PUSH result (30 R61). -/
def PushResult.code : PushResult → BitVec 2
  | .stored => 0
  | .dup => 1
  | .full => 2

/-- Condition X8 (60 R137, R140): `err_rx_ovf <- 1`. -/
def setRxOverflow (s : State) : State := { s with errRxOvf := true }

/-- Condition X9 (60 R137, R140): `err_ev_full <- 1`. -/
def setEventFull (s : State) : State := { s with errEvFull := true }

/-- Both flags to 0 (60 R141). -/
def clearErrors (s : State) : State := { s with errRxOvf := false, errEvFull := false }

end Sys2Proof.Machine
end

