-- ==== Sys2Proof/Machine/Operands.lean ====
section
/-! DEFINITION. The framing primitives of 40_primitives.md, the check function, and `stuff` of 41
R77: pure functions on bytes, with no state (40 R74). -/

namespace Sys2Proof.Machine

/-! ### Bytes -/

/-- `is_control`, 40 R65. -/
def isControl (b : Byte) : Bool := b &&& 0xC0 = 0xC0

/-- `collides`, 40 R66: the same predicate on a run byte before any bit is cleared. -/
def collides (d : Byte) : Bool := isControl d

/-- `clear_marker`, 40 R67. -/
def clearMarker (d : Byte) : Byte := d &&& 0x7F

/-- `restore_marker`, 40 R67: an OR, whatever the byte (92 D31). -/
def restoreMarker (b : Byte) : Byte := b ||| 0x80

/-- `fold`, 40 R68: bits 7 and 6 exchanged. -/
def fold (l : Byte) : Byte := (l &&& 0x3F) ||| ((l &&& 0x80) >>> 1) ||| ((l &&& 0x40) <<< 1)

/-- `unfold`, 40 R69: the same exchange. -/
def unfold (w : Byte) : Byte := fold w

/-- A flag as a byte (00 R7, `zext_8`). -/
def flagBit (f : Bool) : Byte := if f then 1 else 0

/-- `HEAD(C,E)`, 40 R70. -/
def headByte (c e : Bool) : Byte := 0xC4 ||| (flagBit c <<< 1) ||| flagBit e

/-- `TAIL(C,E)`, 40 R70. -/
def tailByte (c e : Bool) : Byte := 0xC0 ||| (flagBit c <<< 1) ||| flagBit e

/-- `ESCAPE(m)`, 40 R70. -/
def escapeByte (m : Mask) : Byte := 0xD0 ||| m.setWidth 8

/-- What `class` tells of a byte (40 R71), with the fields of 40 R70. -/
inductive ByteClass where
  | head (c e : Bool)
  | tail (c e : Bool)
  | escape (m : Mask)
  | unknown
  | data
  deriving DecidableEq, Repr

/-- `class`, 40 R71: from the received byte alone. -/
def classify (b : Byte) : ByteClass :=
  if b &&& 0xC0 ≠ 0xC0 then .data
  else if b &&& 0xFC = 0xC4 then .head b[1] b[0]
  else if b &&& 0xFC = 0xC0 then .tail b[1] b[0]
  else if b &&& 0xF0 = 0xD0 then .escape (b.extractLsb' 0 4)
  else .unknown

/-- The datum of a DATA_LO byte (30 R47). -/
def dataLoByte (d : BitVec 7) : Byte := d.setWidth 8

/-- The datum of a DATA_HI byte (30 R47). -/
def dataHiByte (d : BitVec 6) : Byte := 0x80 ||| d.setWidth 8

/-- An UNKNOWN_A byte (30 R47). -/
def unknownAByte (x : BitVec 3) : Byte := 0xC8 ||| x.setWidth 8

/-- An UNKNOWN_B byte (30 R47). -/
def unknownBByte (x : BitVec 5) : Byte := 0xE0 ||| x.setWidth 8

/-! ### The check function -/

/-- One of the eight shifts of the default check (40 R72). -/
def crc8Shift (crc : Byte) : Byte := if crc[7] then (crc <<< 1) ^^^ 0x07 else crc <<< 1

/-- One byte of the default check: eight shifts after the exclusive or (40 R72). -/
def crc8Byte (crc x : Byte) : Byte :=
  crc8Shift <| crc8Shift <| crc8Shift <| crc8Shift <|
  crc8Shift <| crc8Shift <| crc8Shift <| crc8Shift (crc ^^^ x)

/-- The default `CRC_FN`, 40 R72. -/
def crc8 (s : List Byte) : Byte := s.foldl crc8Byte 0

/-- `CRC_FN` as the block was built (00 R6). -/
def crcFn (p : Params) (s : List Byte) : Byte :=
  match p.crc with
  | .crc8 => crc8 s
  | .plugged k => Config.pluggedCrc k s

/-- The check of a frame: the logical length, the Command byte and the payload (30 R57). -/
def frameCrc (p : Params) (len cmd : Byte) (payload : List Byte) : Byte :=
  crcFn p (len :: cmd :: payload)

/-! ### Stuffing -/

/-- The mask of a window: bit `k` is set exactly when its byte `k` collides (41 R77). -/
def windowMask : List Byte → Mask
  | [] => 0
  | d :: w => (windowMask w <<< 1) ||| (if collides d then 1 else 0)

/-- A byte of a window as it is emitted (41 R77). -/
def emitByte (d : Byte) : Byte := if collides d then clearMarker d else d

/-- `stuff` with a bound on the number of scan steps: a colliding byte outside a window opens one
over the next `min(4, n - i)` bytes (41 R77). -/
def stuffWithin : Nat → List Byte → List Byte
  | 0, _ => []
  | _ + 1, [] => []
  | n + 1, d :: r =>
    if collides d then
      escapeByte (windowMask ((d :: r).take nEsc)) :: ((d :: r).take nEsc).map emitByte
        ++ stuffWithin n ((d :: r).drop nEsc)
    else d :: stuffWithin n r

/-- `stuff`, 41 R77: one scan step per byte is enough. -/
def stuff (r : List Byte) : List Byte := stuffWithin r.length r

/-- The number of windows the scan opens, with the same bound (30 R62). -/
def escWithin : Nat → List Byte → Nat
  | 0, _ => 0
  | _ + 1, [] => 0
  | n + 1, d :: r =>
    if collides d then 1 + escWithin n ((d :: r).drop nEsc) else escWithin n r

/-- `esc`, 30 R62: the number of ESCAPE bytes of a run. -/
def esc (r : List Byte) : Nat := escWithin r.length r

/-- The run of a frame: the payload and, with C = 1, the check byte (41 R75). -/
def runOf (p : Params) (cmd : Byte) (c : Bool) (payload : List Byte) : List Byte :=
  payload ++ if c then [frameCrc p (BitVec.ofNat 8 payload.length) cmd payload] else []

/-- The wire frame, 41 R75 and R80. -/
def wireFrame (p : Params) (cmd : Byte) (e c : Bool) (payload : List Byte) : List Byte :=
  [headByte c e, fold (BitVec.ofNat 8 payload.length), cmd] ++ stuff (runOf p cmd c payload)
    ++ [tailByte c e]

/-! ### The byte an operation brings -/

/-- The byte an operation feeds the block, if any: RX_BYTE in its two forms (44 R117), the pattern of
30 R47 filled in. -/
def wireByte : Instr → Option Byte
  | .dataLo d => some (dataLoByte d)
  | .dataHi d => some (dataHiByte d)
  | .tail c e => some (tailByte c e)
  | .head c e => some (headByte c e)
  | .unknownA x => some (unknownAByte x)
  | .escape m => some (escapeByte m)
  | .unknownB x => some (unknownBByte x)
  | .rxByte b => some b
  | .reset => none
  | .encode _ _ _ _ => none
  | .evPush _ => none
  | .evPop => none
  | .errClear => none
  | .opReserved6 => none
  | .opReserved7 => none

/-- Whether an operation brings a HEAD byte: the one way into a frame (42 R87). -/
def bringsHead (i : Instr) : Bool :=
  match wireByte i with
  | some b => b &&& 0xFC = 0xC4
  | none => false

/-- Whether an operation brings a TAIL byte: the one way a packet is accepted (42 R94). -/
def bringsTail (i : Instr) : Bool :=
  match wireByte i with
  | some b => b &&& 0xFC = 0xC0
  | none => false

end Sys2Proof.Machine
end

