-- ==== Sys2Proof/Machine/Ops.lean ====
section
/-! DEFINITION. The named operations over the arrays and the state elements, and raising an event,
which stands where a processor would take an exception (60 R135: no trap exists; R142, R143). -/

namespace Sys2Proof.Machine

/-! ### Arrays: cells over a value that unlisted indices read as -/

section Cells
variable {α : Type} [DecidableEq α]

/-- The value at index `i`, `d` where it is not listed. -/
def readCell (d : α) : List (Nat × α) → Nat → α
  | [], _ => d
  | x :: m, i => if x.1 = i then x.2 else readCell d m i

/-- A cell put in its place by index. -/
def insertCell (c : Nat × α) : List (Nat × α) → List (Nat × α)
  | [] => [c]
  | x :: m => if c.1 < x.1 then c :: x :: m else x :: insertCell c m

/-- `A[i] <- v` (00 R7): a cell that would hold `d` is not listed. -/
def writeCell (d : α) (m : List (Nat × α)) (i : Nat) (v : α) : List (Nat × α) :=
  let rest := m.filter fun x => x.1 ≠ i
  if v = d then rest else insertCell (i, v) rest

/-- The canonical form: indices strictly rising and no cell that holds `d`. -/
def cellsWf (d : α) : List (Nat × α) → Bool
  | [] => true
  | x :: m => x.2 ≠ d && m.all (fun y => x.1 < y.1) && cellsWf d m

end Cells

/-- What an element of `rx_buf` or `tx_buf` reads as until it is written: its reset value (10 R28;
log entry 10). -/
def unlistedByte : Byte := 0x00

/-- `A[i]` of a byte array (20 R33). -/
def Memory.read (m : Memory) (i : Nat) : Byte := readCell unlistedByte m i

/-- `A[i] <- v` of a byte array (20 R33). -/
def Memory.write (m : Memory) (i : Nat) (v : Byte) : Memory := writeCell unlistedByte m i v

/-- The canonical form of a byte array. -/
def Memory.wf (m : Memory) : Bool := cellsWf unlistedByte m

/-- The `n` bytes from index `i` up. -/
def Memory.readBytes (m : Memory) : Nat → Nat → List Byte
  | _, 0 => []
  | i, n + 1 => m.read i :: m.readBytes (i + 1) n

/-- Bytes stored from index `i` up, in order. -/
def Memory.writeBytes (m : Memory) : Nat → List Byte → Memory
  | _, [] => m
  | i, v :: vs => (m.write i v).writeBytes (i + 1) vs

/-- `stk[i]` (10 R20). -/
def Slots.read (m : Slots) (i : Nat) : EventCode := readCell idle m i

/-- `stk[i] <- e`. -/
def Slots.write (m : Slots) (i : Nat) (e : EventCode) : Slots := writeCell idle m i e

/-- The canonical form of the stack's slots. -/
def Slots.wf (m : Slots) : Bool := cellsWf idle m

/-! ### Updates of the state elements -/

/-- Record what an operation returns to its caller. -/
def setResult (r : Result) (s : State) : State := { s with result := r }

/-- Start a frame (42 R88). -/
def openFrame (c e : Bool) (s : State) : State :=
  { s with
    rxLen := 0
    rxMask := 0
    rxHeadC := c
    rxHeadE := e
    rxActive := true
    pktValid := false }

/-- Load the coverage mask (42 R90). -/
def setMask (m : Mask) (s : State) : State := { s with rxMask := m }

/-- End the frame at TAIL (42 R95). -/
def closeFrame (s : State) : State := { s with rxActive := false, rxMask := 0 }

/-- Drop the frame in progress (42 R91, R93). -/
def dropFrame (s : State) : State := { s with rxActive := false, rxMask := 0, rxLen := 0 }

/-- Store a byte at `rx_buf[rx_len]` and count it (42 R92). -/
def storeRx (v : Byte) (s : State) : State :=
  { s with rxBuf := s.rxBuf.write s.rxLen v, rxLen := s.rxLen + 1 }

/-- Latch the decoded packet (42 R100). -/
def latchPacket (cmd len : Byte) (order crc : Bool) (s : State) : State :=
  { s with pktCmd := cmd, pktLen := len, pktOrder := order, pktCrc := crc, pktValid := true }

/-- Store a wire frame (41 R75): `tx_buf[0..]` and `tx_len`. -/
def storeTx (wire : List Byte) (s : State) : State :=
  { s with txBuf := s.txBuf.writeBytes 0 wire, txLen := wire.length }

/-- Grow the stack by one (43 R105): `sp <- sp + 1`, `stk[sp] <- e`. -/
def stackGrow (code : EventCode) (s : State) : State :=
  { s with stk := s.stk.write (s.sp + 1) code, sp := s.sp + 1 }

/-- Shrink the stack by one (43 R106); the slot keeps its stale code. -/
def stackShrink (s : State) : State := { s with sp := s.sp - 1 }

/-- The requests still to be applied. -/
def setPending (l : List Request) (s : State) : State := { s with pending := l }

/-! ### The event stack -/

/-- What a push of `code` answers (43 R105, R109): full first, then the duplicate test against
`stk[sp]`, which is slot 0 when the stack is empty. -/
def pushResult (code : EventCode) (s : State) : PushResult :=
  if s.sp < s.params.evCap - 1 then
    if s.stk.read s.sp = code then .dup else .stored
  else .full

/-- The state after a push of `code` (43 R105), its result aside: EV_PUSH and the decoder's
completion push (42 R101) both end here. -/
def pushEvent (code : EventCode) (s : State) : State :=
  match pushResult code s with
  | .full => setEventFull s
  | .dup => s
  | .stored => stackGrow code s

/-- What a pop answers (43 R106). -/
def popResult (s : State) : EventCode := if s.sp = 0 then idle else s.stk.read s.sp

/-- The state after a pop (43 R106): the analogue of a return (60 R144), nothing is restored. -/
def popEvent (s : State) : State := if s.sp = 0 then s else stackShrink s

/-! ### Taking the next operation -/

/-- The next request and the state with the rest still pending; none when the environment has
nothing to apply. -/
def fetch (s : State) : Option (Request × State) :=
  match s.pending with
  | [] => none
  | r :: rest => some (r, setPending rest s)

end Sys2Proof.Machine
end

