-- ==== Sys2Proof/Machine/Control.lean ====
section
/-! DEFINITION. The operations that stand for system instructions (60 R152), RESET and ERR_CLEAR,
and the two unassigned select codes. -/

namespace Sys2Proof.Machine

/-- Every element of the block to its reset value (70 R155); the parameters are not state of the
block (70 R158), and the environment's own pending operations are not either. -/
def resetBlock (s : State) : State := setPending s.pending (State.init s.params)

/-- RESET, 70 R155. -/
def execReset (s : State) : Host.Outcome State Fault Refusal :=
  .next (setResult .none (resetBlock s))

/-- ERR_CLEAR, 60 R141. -/
def execErrClear (s : State) : Host.Outcome State Fault Refusal :=
  .next (setResult .none (clearErrors s))

/-- Select code 0b110, 00 R8: "the block ignores them (no state change, no result)". -/
def execOpReserved6 (s : State) : Host.Outcome State Fault Refusal :=
  .next (setResult .none s)

/-- Select code 0b111, 00 R8. -/
def execOpReserved7 (s : State) : Host.Outcome State Fault Refusal :=
  .next (setResult .none s)

end Sys2Proof.Machine
end

