-- ==== Sys2Proof/Machine/Events.lean ====
section
/-! DEFINITION. The event stack's operations EV_PUSH and EV_POP (43_event_stack.md). -/

namespace Sys2Proof.Machine

/-- EV_PUSH, 43 R105. -/
def execEvPush (code : EventCode) (s : State) : Host.Outcome State Fault Refusal :=
  .next (setResult (.push (pushResult code s)) (pushEvent code s))

/-- EV_POP, 43 R106. -/
def execEvPop (s : State) : Host.Outcome State Fault Refusal :=
  .next (setResult (.event (popResult s)) (popEvent s))

end Sys2Proof.Machine
end

