-- ==== Sys2Proof/Machine/Receive.lean ====
section
/-! DEFINITION. The decoder (42_decoder.md): the rules RX_BYTE applies by class, and the meanings of
the wire-byte rows and of RX_BYTE, which all return nothing (42 R85). -/

namespace Sys2Proof.Machine

/-- HEAD in either state (42 R88). -/
def receiveHead (c e : Bool) (s : State) : State := openFrame c e s

/-- ESCAPE (42 R90): the new mask replaces the old; ignored outside a frame. -/
def receiveEscape (m : Mask) (s : State) : State := if s.rxActive then setMask m s else s

/-- An unknown control byte (42 R91): the frame is dropped; ignored outside a frame. -/
def receiveUnknown (s : State) : State := if s.rxActive then dropFrame s else s

/-- What a data byte is stored as (42 R92): restored when bit 0 of the mask is 1. -/
def restored (b : Byte) (s : State) : Byte := if s.rxMask[0] then restoreMarker b else b

/-- A data byte (42 R92, R93): it consumes a mask bit and is stored, or, with the buffer full, the
frame is dropped and the overflow latched; ignored outside a frame.
The range test is 40 R73's "`rx_len < RX_CAP` before `rx_len + 1`" (log entry 9). -/
def receiveData (b : Byte) (s : State) : State :=
  if s.rxActive then
    if s.rxLen < s.params.rxCap then storeRx (restored b s) (setMask (s.rxMask >>> 1) s)
    else dropFrame (setRxOverflow s)
  else s

/-- How a TAIL's checks end (42 R94): accepted, or the first condition of 60 R137 that fails. -/
inductive FrameCheck where
  | accept
  /-- X1. -/
  | headTailMismatch
  /-- X3. -/
  | tooShort
  /-- X4. -/
  | lengthTooLarge
  /-- X5. -/
  | overCapacity
  /-- X6. -/
  | countMismatch
  /-- X7. -/
  | crcMismatch
  deriving DecidableEq, Repr

/-- C as a count of bytes. -/
def crcCount (c : Bool) : Nat := if c then 1 else 0

/-- `L`, the unfolded Length byte (42 R94). -/
def rxLength (s : State) : Byte := unfold (s.rxBuf.read 0)

/-- `rx_buf[2 .. 2+L-1]`. -/
def rxPayload (s : State) : List Byte := s.rxBuf.readBytes 2 (rxLength s).toNat

/-- The check of the received frame (42 R99). -/
def rxCrc (s : State) : Byte := frameCrc s.params (rxLength s) (s.rxBuf.read 1) (rxPayload s)

/-- The checks of 42 R94, in the order written there. -/
def checkFrame (c e : Bool) (s : State) : FrameCheck :=
  if c ≠ s.rxHeadC ∨ e ≠ s.rxHeadE then .headTailMismatch
  else if s.rxLen < 2 then .tooShort
  else if s.params.payloadCap < (rxLength s).toNat then .lengthTooLarge
  else if s.params.rxCap < 2 + (rxLength s).toNat + crcCount c then .overCapacity
  else if s.params.strictLength ∧ s.rxLen ≠ 2 + (rxLength s).toNat + crcCount c then .countMismatch
  else if c ∧ rxCrc s ≠ s.rxBuf.read (2 + (rxLength s).toNat) then .crcMismatch
  else .accept

/-- Accept the frame (42 R100, R101): latch the packet and push `RequestReceived`, the push's
result thrown away. -/
def acceptFrame (c e : Bool) (s : State) : State :=
  pushEvent requestReceived (latchPacket (s.rxBuf.read 1) (rxLength s) e c s)

/-- TAIL (42 R89, R94, R95): ignored outside a frame; else the frame ends and is accepted or
dropped. -/
def receiveTail (c e : Bool) (s : State) : State :=
  if s.rxActive then
    match checkFrame c e s with
    | .accept => acceptFrame c e (closeFrame s)
    | _ => closeFrame s
  else s

/-- RX_BYTE's dispatch on the class of the byte (42 R85, R86). -/
def receiveByte (b : Byte) (s : State) : State :=
  match classify b with
  | .head c e => receiveHead c e s
  | .tail c e => receiveTail c e s
  | .escape m => receiveEscape m s
  | .unknown => receiveUnknown s
  | .data => receiveData b s

/-- DATA_LO, 42 R92. -/
def execDataLo (d : BitVec 7) (s : State) : Host.Outcome State Fault Refusal :=
  .next (setResult .none (receiveData (dataLoByte d) s))

/-- DATA_HI, 42 R92. -/
def execDataHi (d : BitVec 6) (s : State) : Host.Outcome State Fault Refusal :=
  .next (setResult .none (receiveData (dataHiByte d) s))

/-- TAIL, 42 R94. -/
def execTail (c e : Bool) (s : State) : Host.Outcome State Fault Refusal :=
  .next (setResult .none (receiveTail c e s))

/-- HEAD, 42 R88. -/
def execHead (c e : Bool) (s : State) : Host.Outcome State Fault Refusal :=
  .next (setResult .none (receiveHead c e s))

/-- UNKNOWN_A, 42 R91: its three free bits have no meaning (30 R52). -/
def execUnknownA (_x : BitVec 3) (s : State) : Host.Outcome State Fault Refusal :=
  .next (setResult .none (receiveUnknown s))

/-- ESCAPE, 42 R90. -/
def execEscape (m : Mask) (s : State) : Host.Outcome State Fault Refusal :=
  .next (setResult .none (receiveEscape m s))

/-- UNKNOWN_B, 42 R91: its five free bits have no meaning (30 R52). -/
def execUnknownB (_x : BitVec 5) (s : State) : Host.Outcome State Fault Refusal :=
  .next (setResult .none (receiveUnknown s))

/-- RX_BYTE, 42 R85. -/
def execRxByte (b : Byte) (s : State) : Host.Outcome State Fault Refusal :=
  .next (setResult .none (receiveByte b s))

end Sys2Proof.Machine
end

