-- ==== Sys2Proof/Machine/Transmit.lean ====
section
/-! DEFINITION. The encoder's operation ENCODE (41_encoder.md). -/

namespace Sys2Proof.Machine

/-- What ENCODE answers (41 R75, R76, R79): the first check that fails decides; no state is read. -/
def encodeResult (p : Params) (cmd : Byte) (e c : Bool) (payload : List Byte) : EncodeResult :=
  if isControl cmd then .badCommand
  else if p.payloadCap < payload.length then .tooLarge
  else if p.txCap < (wireFrame p cmd e c payload).length then .tooLarge
  else .ok

/-- The state after ENCODE, its result aside: the whole frame is stored, or nothing (41 R81). -/
def encodeFrame (cmd : Byte) (e c : Bool) (payload : List Byte) (s : State) : State :=
  match encodeResult s.params cmd e c payload with
  | .ok => storeTx (wireFrame s.params cmd e c payload) s
  | .badCommand => s
  | .tooLarge => s

/-- ENCODE, 41 R75. -/
def execEncode (cmd : Byte) (e c : Bool) (payload : List Byte) (s : State) :
    Host.Outcome State Fault Refusal :=
  .next (setResult (.encode (encodeResult s.params cmd e c payload))
    (encodeFrame cmd e c payload s))

end Sys2Proof.Machine
end

