-- ==== Sys2Proof/Machine/Dispatch.lean ====
section
/-! DEFINITION. One arm per constructor of Instr, each one call of its meaning. -/

namespace Sys2Proof.Machine

/-- The meaning of each row of the opcode table. -/
def exec (i : Instr) (s : State) : Host.Outcome State Fault Refusal :=
  match i with
  | .dataLo d => Sys2Proof.Machine.execDataLo d s
  | .dataHi d => Sys2Proof.Machine.execDataHi d s
  | .tail c e => Sys2Proof.Machine.execTail c e s
  | .head c e => Sys2Proof.Machine.execHead c e s
  | .unknownA x => Sys2Proof.Machine.execUnknownA x s
  | .escape m => Sys2Proof.Machine.execEscape m s
  | .unknownB x => Sys2Proof.Machine.execUnknownB x s
  | .reset => Sys2Proof.Machine.execReset s
  | .rxByte b => Sys2Proof.Machine.execRxByte b s
  | .encode cmd e c payload => Sys2Proof.Machine.execEncode cmd e c payload s
  | .evPush code => Sys2Proof.Machine.execEvPush code s
  | .evPop => Sys2Proof.Machine.execEvPop s
  | .errClear => Sys2Proof.Machine.execErrClear s
  | .opReserved6 => Sys2Proof.Machine.execOpReserved6 s
  | .opReserved7 => Sys2Proof.Machine.execOpReserved7 s

end Sys2Proof.Machine
end

