-- ==== Sys2Proof/Machine/Step.lean ====
section
/-! DEFINITION. One step: the next operation the environment has put up is decoded and applied. -/

namespace Sys2Proof.Machine

/-- One operation per step (20 R39). With none pending the block does nothing: "it acts only when an
operation is applied, and all state survives indefinitely between operations" (60 R148). -/
def step (s : State) : Host.Outcome State Fault Refusal :=
  match fetch s with
  | none => .next s
  | some (r, t) =>
    match decode t.params r with
    | .ok i => exec i t
    | .error why => .refused (.malformedRequest why)

/-- The state with a row's word as the next request of the environment (log entry 1). -/
def State.withFetchWord (s : State) (nbits w : Nat) : State :=
  setPending (tableRequest s.params nbits w :: s.pending) s

end Sys2Proof.Machine
end

