-- ==== Sys2Proof/Machine/Observe.lean ====
section
/-! DEFINITION. What can be observed between operations, with no side effect (20 R38, R42;
log entry 16): the status view, the derived outputs, the decoded packet and the encoded frame. -/

namespace Sys2Proof.Machine

/-- `ev_pending`, 10 R24: a level, not an interrupt request the block acts on (43 R114). -/
def evPending (s : State) : Bool := s.sp ≠ 0

/-- `ev_depth`, 10 R24. -/
def evDepth (s : State) : Nat := s.sp

/-- `ev_top`, 10 R24: `stk[sp]`, Idle when the stack is empty. -/
def evTop (s : State) : EventCode := s.stk.read s.sp

/-- The read-only record STATUS (10 R25). -/
structure Status where
  rxActive : Bool
  pktValid : Bool
  evPending : Bool
  errRxOvf : Bool
  errEvFull : Bool
  evDepth : Nat
  rxLen : Nat
  txLen : Nat
  deriving DecidableEq, Repr

/-- The status view (10 R25). -/
def statusOf (s : State) : Status where
  rxActive := s.rxActive
  pktValid := s.pktValid
  evPending := evPending s
  errRxOvf := s.errRxOvf
  errEvFull := s.errEvFull
  evDepth := evDepth s
  rxLen := s.rxLen
  txLen := s.txLen

/-- A decoded packet as a consumer sees it (10 R18). -/
structure Packet where
  cmd : Byte
  order : Bool
  crc : Bool
  payload : List Byte
  deriving DecidableEq, Repr

/-- The payload region `rx_buf[2 .. 2+pkt_len-1]`: not a copy, read at the moment of observation
(10 R18). -/
def payloadOf (s : State) : List Byte := s.rxBuf.readBytes 2 s.pktLen.toNat

/-- The decoded packet, present while `pkt_valid` is 1 (10 R18). -/
def packetOf (s : State) : Option Packet :=
  if s.pktValid then some ⟨s.pktCmd, s.pktOrder, s.pktCrc, payloadOf s⟩ else none

/-- The encoded wire frame `tx_buf[0 .. tx_len-1]` (10 R19); nothing above it can be observed. -/
def txFrame (s : State) : List Byte := s.txBuf.readBytes 0 s.txLen

/-- The live events, newest first: `stk[sp]` down to `stk[1]` (10 R20, 43 R110). -/
def liveEvents (s : State) : List EventCode :=
  ((List.range s.sp).map fun k => s.stk.read (k + 1)).reverse

end Sys2Proof.Machine
end

