-- ==== Sys2Proof/Machine/Agent.lean ====
section
/-! DEFINITION. How an agent of the environment uses the block (44 R117): a program of operations
and observations, run with the operations of the other agents falling between its own (20 R37).
None of it is state of the block (00 R4); log entry 19. -/

namespace Sys2Proof.Machine

/-- One observation: a consistent snapshot of what can be read between two operations (20 R38;
10 R29, its last column). The `pkt_*` registers are read at any time, old values while `pkt_valid`
is 0; the payload region only while it is 1. -/
structure Snapshot where
  status : Status
  pktCmd : Byte
  pktLen : Byte
  pktOrder : Bool
  pktCrc : Bool
  payload : Option (List Byte)
  frame : List Byte
  top : EventCode
  deriving DecidableEq, Repr

/-- What an observation of a state reads. -/
def snapshotOf (s : State) : Snapshot where
  status := statusOf s
  pktCmd := s.pktCmd
  pktLen := s.pktLen
  pktOrder := s.pktOrder
  pktCrc := s.pktCrc
  payload := if s.pktValid then some (payloadOf s) else none
  frame := txFrame s
  top := evTop s

/-- The decoded packet an observation shows, if there is a valid one (10 R18). -/
def Snapshot.packet (o : Snapshot) : Option Packet :=
  o.payload.map fun payload => ⟨o.pktCmd, o.pktOrder, o.pktCrc, payload⟩

/-- What an agent does: it ends with an answer, or applies an operation and goes on with its result,
or observes and goes on with what it read. -/
inductive Program (α : Type) where
  | done (answer : α)
  | apply (i : Instr) (rest : Result → Program α)
  | observe (rest : Snapshot → Program α)

/-- One program after another: the second gets the first one's answer. -/
def Program.bind {α β : Type} : Program α → (α → Program β) → Program β
  | .done answer, next => next answer
  | .apply i rest, next => .apply i fun r => (rest r).bind next
  | .observe rest, next => .observe fun o => (rest o).bind next

/-- Go on from a next state; a fault or a refusal ends the run. -/
def andThen {α β : Type} (o : Host.Outcome α Fault Refusal)
    (next : α → Host.Outcome β Fault Refusal) : Host.Outcome β Fault Refusal :=
  match o with
  | .next a => next a
  | .fault r => .fault r
  | .refused r => .refused r

/-- Operations applied one after another. -/
def applyAll : List Instr → State → Host.Outcome State Fault Refusal
  | [], s => .next s
  | i :: rest, s => andThen (exec i s) (applyAll rest)

/-- Run a program. The `k`-th list of `others` holds the operations that other agents get in before
the program's `k`-th operation or observation, in their order; none where the list has ended. Any
`others` may come: the order among agents is open (20 R37). -/
def Program.run {α : Type} :
    Program α → List (List Instr) → State → Host.Outcome (State × α) Fault Refusal
  | .done answer, _, s => .next (s, answer)
  | .apply i rest, others, s =>
    andThen (applyAll (others.headD []) s) fun t =>
      andThen (exec i t) fun u => (rest u.result).run others.tail u
  | .observe rest, others, s =>
    andThen (applyAll (others.headD []) s) fun t => (rest (snapshotOf t)).run others.tail t

end Sys2Proof.Machine
end

