-- ==== Sys2Proof/Machine/Environment.lean ====
section
/-! DEFINITION. The environment's contract (44_environment.md): the software around the block. None
of it is state of the block or an operation (00 R4); what the spec leaves to collaborators is an
argument (log entry 11). -/

namespace Sys2Proof.Machine

/-- Status codes of a packet (30 R59). -/
inductive PacketStatus where
  | request
  | pending
  | positiveResponse
  | negativeResponse
  deriving DecidableEq, Repr

/-- The 2-bit code of a status (30 R59). -/
def PacketStatus.code : PacketStatus → BitVec 2
  | .request => 0b00
  | .pending => 0b01
  | .positiveResponse => 0b10
  | .negativeResponse => 0b11

/-- The status of a 2-bit code (30 R59). -/
def PacketStatus.ofCode (c : BitVec 2) : PacketStatus :=
  match c with
  | 0b00 => .request
  | 0b01 => .pending
  | 0b10 => .positiveResponse
  | 0b11 => .negativeResponse

/-- The fields of a Command byte (30 R58). -/
structure Command where
  service : BitVec 3
  subfunction : BitVec 2
  status : PacketStatus
  deriving DecidableEq, Repr

/-- Packing of the Command byte (30 R58): bit 7 is always 0. -/
def Command.pack (c : Command) : Byte :=
  0#1 ++ c.service ++ c.subfunction ++ c.status.code

/-- The fields of a Command byte, bit 7 aside (30 R58; log entry 17). -/
def Command.unpack (b : Byte) : Command where
  service := b.extractLsb' 4 3
  subfunction := b.extractLsb' 2 2
  status := PacketStatus.ofCode (b.extractLsb' 0 2)

/-! ### The interfaces -/

/-- `native_byte_order`, 44 R128: a property of the processor the software runs on, here of how it
stores a multi-byte value; big-endian (1) when the first stored byte of the reference value
01020304 is its highest (log entry 11). -/
def nativeByteOrder (store : BitVec 32 → List Byte) : Bool :=
  (store 0x01020304).head? = some 0x01

/-- `receive_bytes`, 44 R127: one RX_BYTE per byte in order. -/
def receiveBytes (bytes : List Byte) (s : State) : Host.Outcome State Fault Refusal :=
  applyAll (bytes.map .rxByte) s

/-- What the transmit-complete notifier does (44 R117, R126): it pushes `TransmitConfirmed`. -/
def transmitComplete : Instr := .evPush transmitConfirmed

/-- Encode a frame and read it out of `tx_buf` (44 R129(b)): the wire bytes `tx_buf[0..tx_len-1]`, or
the result that says why there are none, which the caller must check (44 R131). -/
def encodeOut (frame : Instr) : Program (Except Result (List Byte)) :=
  .apply frame fun r =>
    if r = .encode .ok then .observe fun o => .done (.ok o.frame) else .done (.error r)

/-- `build_request`, 44 R127: the wire bytes of ENCODE with status Request, C = `use_crc` and
E = `native_byte_order()` of the host. -/
def buildRequest (store : BitVec 32 → List Byte) (service : BitVec 3) (subfunction : BitVec 2)
    (payload : List Byte) (useCrc : Bool) : Program (Except Result (List Byte)) :=
  encodeOut (.encode (Command.pack ⟨service, subfunction, .request⟩) (nativeByteOrder store) useCrc
    payload)

/-! ### The driver -/

/-- The one action MELO's driver names (44 R116). -/
inductive Action where
  | during
  deriving DecidableEq, Repr

/-- The event a pop answered. -/
def poppedEvent : Result → EventCode
  | .event code => code
  | .none => idle
  | .encode _ => idle
  | .push _ => idle

/-- The driver's loop, 44 R115, with a bound on the number of pops: the driver's state when a pop
answers Idle, none when the bound ends first. `transition` may itself operate on the block, and then
those are further operations like any other (44 R116). -/
def driverLoop {σ : Type} (transition : σ → Action → EventCode → Program σ) :
    Nat → σ → Program (Option σ)
  | 0, _ => .done none
  | n + 1, cur => .apply .evPop fun r =>
    if poppedEvent r = idle then .done (some cur)
    else (transition cur .during (poppedEvent r)).bind (driverLoop transition n)

/-- `run_pending_work`, 44 R115: the driver's loop run on the block, with the operations of other
agents falling between its own. -/
def runPendingWork {σ : Type} (transition : σ → Action → EventCode → Program σ) (bound : Nat)
    (others : List (List Instr)) (s : State) (cur : σ) :
    Host.Outcome (State × Option σ) Fault Refusal :=
  (driverLoop transition bound cur).run others s

/-! ### The dispatch layer -/

/-- The 4-byte value of a payload (44 R125): an explicit compare-and-branch on whether sender and
receiver agree. -/
def wordOf (order localOrder : Bool) (b0 b1 b2 b3 : Byte) : BitVec 32 :=
  if order = localOrder then b3 ++ b2 ++ b1 ++ b0 else b0 ++ b1 ++ b2 ++ b3

/-- A service handler (44 R119): the response payload, or failure. -/
abbrev Handler := Packet → Option (List Byte)

/-- The handler of an unpopulated entry (44 R118): always failure. -/
def defaultHandler : Handler := fun _ => none

/-- How many bytes a subfunction of the read service reads (44 R124); none for any other. -/
def readCount (subfunction : BitVec 2) : Option Nat :=
  match subfunction with
  | 1 => some 4
  | 2 => some 1
  | 0 => none
  | 3 => none

/-- The reference service "read memory" (44 R124): 4 bytes or 1 byte of the view that `resolve`, the
memory accessor of 44 R126, gives at the address in the payload; any other subfunction fails.
Two points are open (91 N14) and are arguments, the model's choice of form (log entry 11): `short`,
what a payload of under 4 bytes gives, and `unresolved`, what an address gives at which the view has
too few bytes. -/
def readMemory (localOrder : Bool) (resolve : BitVec 32 → List Byte)
    (short unresolved : Handler) : Handler := fun p =>
  match readCount (Command.unpack p.cmd).subfunction with
  | none => none
  | some n =>
    match p.payload with
    | b0 :: b1 :: b2 :: b3 :: _ =>
      if n ≤ (resolve (wordOf p.order localOrder b0 b1 b2 b3)).length then
        some ((resolve (wordOf p.order localOrder b0 b1 b2 b3)).take n)
      else unresolved p
    | _ => short p

/-- What an endpoint supplies to its service table: what the read service consumes (44 R124, R125,
R126), the two answers the spec leaves open (91 N14, log entry 11), and its other services. -/
structure Services where
  /-- The local byte order, compared with the sender's tag. -/
  localOrder : Bool
  /-- The memory accessor. -/
  resolve : BitVec 32 → List Byte
  /-- What the read service answers for a payload of under 4 bytes. -/
  short : Handler
  /-- What the read service answers where the accessor's view has too few bytes. -/
  unresolved : Handler
  /-- The handlers of the service ids 1 to 7, none where an entry is unpopulated. -/
  others : BitVec 3 → Option Handler

/-- The service table: 8 entries by the 3-bit service id, an unpopulated one the default handler
(44 R118); service id 0 is the read service (44 R124). -/
def serviceTable (services : Services) (service : BitVec 3) : Handler :=
  if service = 0 then
    readMemory services.localOrder services.resolve services.short services.unresolved
  else (services.others service).getD defaultHandler

/-- The response to a request (44 R120), zero-length on failure (44 R119); `e` and `c` are the
dispatch layer's choice (92 D34). -/
def responseFrame (table : BitVec 3 → Handler) (e c : Bool) (p : Packet) : Instr :=
  match table (Command.unpack p.cmd).service p with
  | some reply =>
    .encode (Command.pack { Command.unpack p.cmd with status := .positiveResponse }) e c reply
  | none =>
    .encode (Command.pack { Command.unpack p.cmd with status := .negativeResponse }) e c []

/-- The Pending announcement (44 R120, R121): one payload byte, the response's wire length. -/
def pendingFrame (e c : Bool) (p : Packet) (responseLength : Nat) : Instr :=
  .encode (Command.pack { Command.unpack p.cmd with status := .pending }) e c
    [BitVec.ofNat 8 responseLength]

/-- The two frames of a served request (44 R120). -/
structure Announcement where
  /-- The response frame, copied out and held for later retrieval. -/
  held : List Byte
  /-- The Pending frame, sent at once. -/
  sent : List Byte
  deriving DecidableEq, Repr

/-- Lifecycle step 1 (44 R120, R121): encode the response and hold its frame; then encode and send
the Pending frame whose payload is the held frame's wire length. -/
def announce (response : Instr) (pendingOf : Nat → Instr) : Program (Except Result Announcement) :=
  (encodeOut response).bind fun o =>
    match o with
    | .error why => .done (.error why)
    | .ok held =>
      (encodeOut (pendingOf held.length)).bind fun o =>
        match o with
        | .error why => .done (.error why)
        | .ok sent => .done (.ok ⟨held, sent⟩)

/-- What the peer gets when it pulls `count` bytes of the held response (44 R120, R122): its first
`count` bytes. When the frame is released is open (91 N19; log entry 11). -/
def retrieve (count : Byte) (held : List Byte) : List Byte := held.take count.toNat

/-- What the dispatch layer has done with a decoded packet (44 R120 to R123). -/
inductive DispatchOutcome where
  /-- No valid packet: nothing to do (70 R163). -/
  | nothing
  /-- A request was served: its response is held and announced. -/
  | announced (a : Announcement)
  /-- ENCODE refused one of the two frames; what then is open (log entry 11). -/
  | notAnnounced (why : Result)
  /-- `request_bytes`: pull that many bytes from the peer, payload byte 0, if there is one. -/
  | pull (count : Option Byte)
  /-- `on_response`: hand the response to its consumer. -/
  | deliver (service : BitVec 3) (subfunction : BitVec 2) (payload : List Byte) (success : Bool)
  deriving DecidableEq, Repr

/-- How serving a request ended. -/
def announceOutcome : Except Result Announcement → DispatchOutcome
  | .ok a => .announced a
  | .error why => .notAnnounced why

/-- The packet's lifecycle by status (44 R120, R122, R123), over any table of handlers, of which
`dispatch` gives it the endpoint's service table; `e` and `c` are the flags of the response
frame, `e'` and `c'` those of the Pending frame, the dispatch layer's choice (92 D34).
DESIGN CHOICE, unsafe (log entry 21): a Pending packet asks for the pull whatever was requested
before; 44 R122 gives the step for the original requester, and the spec is silent on a Pending frame
that no request of this endpoint awaits. -/
def dispatchPacket (table : BitVec 3 → Handler) (e c e' c' : Bool) (p : Packet) :
    Program DispatchOutcome :=
  match (Command.unpack p.cmd).status with
  | .request =>
    (announce (responseFrame table e c p) (pendingFrame e' c' p)).bind fun o =>
      .done (announceOutcome o)
  | .pending => .done (.pull p.payload.head?)
  | .positiveResponse =>
    .done (.deliver (Command.unpack p.cmd).service (Command.unpack p.cmd).subfunction p.payload true)
  | .negativeResponse =>
    .done (.deliver (Command.unpack p.cmd).service (Command.unpack p.cmd).subfunction p.payload false)

/-- The dispatch layer's turn: one observation of the packet, which is then processed with the
endpoint's service table (44 R118, R124); with `pkt_valid` = 0 there is nothing to do (70 R163).
DESIGN CHOICE, unsafe (log entry 20): a turn keeps no record of packets it has processed.
`pkt_valid` stays 1 after processing (10 R18), so another turn processes a still valid packet again;
one turn per completed packet makes `on_response` once per completed response (44 R123). -/
def dispatch (services : Services) (e c e' c' : Bool) : Program DispatchOutcome :=
  .observe fun o =>
    match o.packet with
    | none => .done .nothing
    | some p => dispatchPacket (serviceTable services) e c e' c' p

end Sys2Proof.Machine
end

