-- ==== Sys2Proof/Safety.lean ====
section
/-! DEFINITION. The invariants of 10 R27 and the form of the arrays, which every state after RESET
meets; and the parts of the state an operation leaves alone, in the terms the statements use. -/

namespace Sys2Proof.Machine

/-- Every cell of an array has an index below its capacity (20 R30, R34). -/
def CellsBelow {α : Type} (cap : Nat) (m : List (Nat × α)) : Prop := ∀ x ∈ m, x.1 < cap

/-- The receive side's invariants: I-1, I-4, I-5 of 10 R27, and `rx_buf`'s form. -/
structure RxInv (s : State) : Prop where
  form : s.rxBuf.wf = true
  inside : CellsBelow s.params.rxCap s.rxBuf
  /-- I-1. -/
  len : s.rxLen ≤ s.params.rxCap
  /-- I-4. -/
  mask : s.rxActive = false → s.rxMask = 0
  /-- I-5: a valid packet excludes a frame in progress. -/
  noFrame : s.pktValid = true → s.rxActive = false
  /-- I-5. -/
  payload : s.pktValid = true → s.pktLen.toNat ≤ s.params.payloadCap
  /-- I-5. -/
  stored : s.pktValid = true → 2 ≤ s.rxLen
  /-- I-5. -/
  fits : s.pktValid = true → 2 + s.pktLen.toNat + crcCount s.pktCrc ≤ s.params.rxCap
  /-- I-5. -/
  cmd : s.pktValid = true → s.pktCmd = s.rxBuf.read 1
  /-- I-5. -/
  length : s.pktValid = true → s.pktLen = unfold (s.rxBuf.read 0)
  /-- I-5, with STRICT_LENGTH = 1. -/
  strict : s.pktValid = true → s.params.strictLength = true →
    s.rxLen = 2 + s.pktLen.toNat + crcCount s.pktCrc

/-- The transmit side's invariants: I-6 of 10 R27, and `tx_buf`'s form. -/
structure TxInv (s : State) : Prop where
  form : s.txBuf.wf = true
  inside : CellsBelow s.params.txCap s.txBuf
  /-- I-6. -/
  len : s.txLen ≤ s.params.txCap
  /-- I-6. -/
  whole : s.txLen = 0 ∨ 4 ≤ s.txLen

/-- The event stack's invariants: I-2, I-3, I-7 of 10 R27, and `stk`'s form. -/
structure EvInv (s : State) : Prop where
  form : s.stk.wf = true
  inside : CellsBelow s.params.evCap s.stk
  /-- I-2. -/
  depth : s.sp ≤ s.params.evCap - 1
  /-- I-3. -/
  slot0 : s.stk.read 0 = idle
  /-- I-7. -/
  distinct : ∀ i, i < s.sp → s.stk.read i ≠ s.stk.read (i + 1)
  /-- Every slot holds a code of EVW bits (10 R20). -/
  width : ∀ i, s.stk.read i < 2 ^ s.params.evWidth

/-- The invariants of 10 R27 over a block whose parameters meet 00 R6's constraints.
The form of the arrays is the model's choice (log entry 10), not a part of R27. -/
structure Inv (s : State) : Prop where
  legal : s.params.Legal
  rx : RxInv s
  tx : TxInv s
  ev : EvInv s

/-! ### Parts of the state left alone -/

/-- The receive side but for the packet registers is as before: every byte of `rx_buf` and the
scalars. -/
structure SameRx (s t : State) : Prop where
  bytes : ∀ i, t.rxBuf.read i = s.rxBuf.read i
  len : t.rxLen = s.rxLen
  mask : t.rxMask = s.rxMask
  active : t.rxActive = s.rxActive
  headC : t.rxHeadC = s.rxHeadC
  headE : t.rxHeadE = s.rxHeadE

/-- The packet registers are as before. -/
structure SamePacket (s t : State) : Prop where
  valid : t.pktValid = s.pktValid
  cmd : t.pktCmd = s.pktCmd
  len : t.pktLen = s.pktLen
  order : t.pktOrder = s.pktOrder
  crc : t.pktCrc = s.pktCrc

/-- Every byte of `tx_buf`, and `tx_len`, is as before. -/
structure SameTx (s t : State) : Prop where
  bytes : ∀ i, t.txBuf.read i = s.txBuf.read i
  len : t.txLen = s.txLen

/-- Every slot of the event stack, and `sp`, is as before. -/
structure SameEvents (s t : State) : Prop where
  slots : ∀ i, t.stk.read i = s.stk.read i
  sp : t.sp = s.sp

/-- Both sticky flags are as before. -/
structure SameErrors (s t : State) : Prop where
  rx : t.errRxOvf = s.errRxOvf
  ev : t.errEvFull = s.errEvFull

/-- Every state element of the block is as before. -/
structure SameBlock (s t : State) : Prop where
  rx : SameRx s t
  packet : SamePacket s t
  tx : SameTx s t
  events : SameEvents s t
  errors : SameErrors s t

/-- The frame in progress has ended with no packet and no event (42 R94, `drop`): the two writes of
its first line, and nothing else. -/
structure FrameDropped (s t : State) : Prop where
  active : t.rxActive = false
  mask : t.rxMask = 0
  bytes : ∀ i, t.rxBuf.read i = s.rxBuf.read i
  len : t.rxLen = s.rxLen
  headC : t.rxHeadC = s.rxHeadC
  headE : t.rxHeadE = s.rxHeadE
  packet : SamePacket s t
  tx : SameTx s t
  events : SameEvents s t
  errors : SameErrors s t

/-- The state `t` is `s` after the push of `code` (43 R105), as far as the stack and its flag go. -/
def PushedOnto (code : EventCode) (s t : State) : Prop :=
  (s.sp = s.params.evCap - 1 → SameEvents s t ∧ t.errEvFull = true) ∧
  (s.sp < s.params.evCap - 1 → s.stk.read s.sp = code →
    SameEvents s t ∧ t.errEvFull = s.errEvFull) ∧
  (s.sp < s.params.evCap - 1 → s.stk.read s.sp ≠ code →
    t.sp = s.sp + 1 ∧ t.stk.read (s.sp + 1) = code ∧
    (∀ i, i ≠ s.sp + 1 → t.stk.read i = s.stk.read i) ∧ t.errEvFull = s.errEvFull)

/-- A transition function that records the events it is given, oldest first. -/
def recordEvents (seen : List EventCode) (_ : Action) (code : EventCode) :
    Program (List EventCode) := .done (seen ++ [code])

end Sys2Proof.Machine
end

