-- ==== Sys2Proof/Certificates/Slice0/Obligations.lean ====
section
/-! DEFINITION. The statements for the provers, from the numbered rules of spec/.
`wireByte i = some b` says that `i` is one of the operations that feed the block the byte `b`: the
wire-byte row of `b`'s class, or RX_BYTE with `b`; a statement under it covers both forms. -/

open Sys2Proof Sys2Proof.Machine

/-! ### The decoder -/

/-- 42 R88: a HEAD starts a frame in any state, and nothing else changes. -/
def Obligations.HeadStartsAFrame : Prop :=
  ∀ (i : Instr) (b : Byte) (s : State), wireByte i = some b → 0xC4 ≤ b.toNat → b.toNat ≤ 0xC7 →
    ∃ t, exec i s = .next t ∧
      t.rxLen = 0 ∧ t.rxMask = 0 ∧ t.rxHeadC = b[1] ∧ t.rxHeadE = b[0] ∧
      t.rxActive = true ∧ t.pktValid = false ∧
      (∀ a, t.rxBuf.read a = s.rxBuf.read a) ∧
      t.pktCmd = s.pktCmd ∧ t.pktLen = s.pktLen ∧ t.pktOrder = s.pktOrder ∧ t.pktCrc = s.pktCrc ∧
      SameTx s t ∧ SameEvents s t ∧ SameErrors s t

/-- 42 R89: a TAIL with no frame open closes nothing. -/
def Obligations.TailOutsideAFrameDoesNothing : Prop :=
  ∀ (i : Instr) (b : Byte) (s : State), wireByte i = some b → 0xC0 ≤ b.toNat → b.toNat ≤ 0xC3 →
    s.rxActive = false → ∃ t, exec i s = .next t ∧ SameBlock s t

/-- 42 R90: an ESCAPE loads the mask in a frame, replacing the old one, and does nothing outside. -/
def Obligations.EscapeLoadsTheMask : Prop :=
  ∀ (i : Instr) (b : Byte) (s : State), wireByte i = some b → 0xD0 ≤ b.toNat → b.toNat ≤ 0xDF →
    ∃ t, exec i s = .next t ∧
      t.rxMask = (if s.rxActive then b.extractLsb' 0 4 else s.rxMask) ∧
      (∀ a, t.rxBuf.read a = s.rxBuf.read a) ∧ t.rxLen = s.rxLen ∧ t.rxActive = s.rxActive ∧
      t.rxHeadC = s.rxHeadC ∧ t.rxHeadE = s.rxHeadE ∧
      SamePacket s t ∧ SameTx s t ∧ SameEvents s t ∧ SameErrors s t

/-- 42 R91: an unknown control byte drops the frame in progress, and does nothing outside one. -/
def Obligations.UnknownByteDropsTheFrame : Prop :=
  ∀ (i : Instr) (b : Byte) (s : State), wireByte i = some b →
    (0xC8 ≤ b.toNat ∧ b.toNat ≤ 0xCF ∨ 0xE0 ≤ b.toNat) →
    ∃ t, exec i s = .next t ∧
      (s.rxActive = true → t.rxActive = false ∧ t.rxMask = 0 ∧ t.rxLen = 0 ∧
        (∀ a, t.rxBuf.read a = s.rxBuf.read a) ∧ t.rxHeadC = s.rxHeadC ∧ t.rxHeadE = s.rxHeadE ∧
        SamePacket s t ∧ SameTx s t ∧ SameEvents s t ∧ SameErrors s t) ∧
      (s.rxActive = false → SameBlock s t)

/-- 42 R92: a data byte in a frame consumes a mask bit, has its marker restored if the bit was 1, is
stored at `rx_len` and counted; outside a frame it does nothing. -/
def Obligations.DataByteIsRestoredAndStored : Prop :=
  ∀ (i : Instr) (b : Byte) (s : State), wireByte i = some b → b.toNat ≤ 0xBF →
    (s.rxActive = true → s.rxLen < s.params.rxCap) →
    ∃ t, exec i s = .next t ∧
      (s.rxActive = true →
        t.rxMask = s.rxMask >>> 1 ∧
        t.rxBuf.read s.rxLen = (if s.rxMask[0] then b ||| 0x80 else b) ∧
        (∀ a, a ≠ s.rxLen → t.rxBuf.read a = s.rxBuf.read a) ∧
        t.rxLen = s.rxLen + 1 ∧ t.rxActive = true ∧
        t.rxHeadC = s.rxHeadC ∧ t.rxHeadE = s.rxHeadE ∧
        SamePacket s t ∧ SameTx s t ∧ SameEvents s t ∧ SameErrors s t) ∧
      (s.rxActive = false → SameBlock s t)

/-- 42 R93: a data byte with the buffer full is not stored, drops the frame and latches the
overflow. -/
def Obligations.DataByteOverflowIsLatched : Prop :=
  ∀ (i : Instr) (b : Byte) (s : State), wireByte i = some b → b.toNat ≤ 0xBF →
    s.rxActive = true → s.rxLen = s.params.rxCap →
    ∃ t, exec i s = .next t ∧
      t.errRxOvf = true ∧ t.rxActive = false ∧ t.rxMask = 0 ∧ t.rxLen = 0 ∧
      (∀ a, t.rxBuf.read a = s.rxBuf.read a) ∧ t.rxHeadC = s.rxHeadC ∧ t.rxHeadE = s.rxHeadE ∧
      SamePacket s t ∧ SameTx s t ∧ SameEvents s t ∧ t.errEvFull = s.errEvFull

/-- 42 R96: a TAIL whose C or E differs from the HEAD's drops the frame. -/
def Obligations.TailMismatchDropsTheFrame : Prop :=
  ∀ (i : Instr) (b : Byte) (s : State), wireByte i = some b → 0xC0 ≤ b.toNat → b.toNat ≤ 0xC3 →
    s.rxActive = true → (b[1] ≠ s.rxHeadC ∨ b[0] ≠ s.rxHeadE) →
    ∃ t, exec i s = .next t ∧ FrameDropped s t

/-- 42 R97: a frame of under 2 data bytes, or with a Length above the capacity, is dropped. -/
def Obligations.TailBadLengthDropsTheFrame : Prop :=
  ∀ (i : Instr) (b : Byte) (s : State), wireByte i = some b → 0xC0 ≤ b.toNat → b.toNat ≤ 0xC3 →
    s.rxActive = true →
    (s.rxLen < 2 ∨ s.params.payloadCap < (unfold (s.rxBuf.read 0)).toNat) →
    ∃ t, exec i s = .next t ∧ FrameDropped s t

/-- 42 R98, its two checks: a frame whose packet would not fit, or, with STRICT_LENGTH = 1, whose
stored count is not `2 + L + C`, is dropped. -/
def Obligations.TailBadCountDropsTheFrame : Prop :=
  ∀ (i : Instr) (b : Byte) (s : State), wireByte i = some b → 0xC0 ≤ b.toNat → b.toNat ≤ 0xC3 →
    s.rxActive = true →
    (s.params.rxCap < 2 + (unfold (s.rxBuf.read 0)).toNat + crcCount b[1] ∨
      s.params.strictLength = true ∧
        s.rxLen ≠ 2 + (unfold (s.rxBuf.read 0)).toNat + crcCount b[1]) →
    ∃ t, exec i s = .next t ∧ FrameDropped s t

/-- 42 R99: with C = 1, a frame whose check byte at index `2 + L` is not the check of the unfolded
length, the Command byte and the payload is dropped. -/
def Obligations.TailBadCrcDropsTheFrame : Prop :=
  ∀ (i : Instr) (b : Byte) (s : State), wireByte i = some b → 0xC0 ≤ b.toNat → b.toNat ≤ 0xC3 →
    s.rxActive = true → b[1] = true →
    crcFn s.params (unfold (s.rxBuf.read 0) :: s.rxBuf.read 1 ::
        s.rxBuf.readBytes 2 (unfold (s.rxBuf.read 0)).toNat) ≠
      s.rxBuf.read (2 + (unfold (s.rxBuf.read 0)).toNat) →
    ∃ t, exec i s = .next t ∧ FrameDropped s t

/-- 42 R100, R101: a TAIL that passes every check latches the packet and pushes `RequestReceived`,
by the push of 43 R105 with its three outcomes, in the same step. -/
def Obligations.GoodTailLatchesAndSignals : Prop :=
  ∀ (i : Instr) (b : Byte) (s : State), wireByte i = some b → 0xC0 ≤ b.toNat → b.toNat ≤ 0xC3 →
    s.rxActive = true →
    b[1] = s.rxHeadC → b[0] = s.rxHeadE →
    2 ≤ s.rxLen → (unfold (s.rxBuf.read 0)).toNat ≤ s.params.payloadCap →
    2 + (unfold (s.rxBuf.read 0)).toNat + crcCount b[1] ≤ s.params.rxCap →
    (s.params.strictLength = true →
      s.rxLen = 2 + (unfold (s.rxBuf.read 0)).toNat + crcCount b[1]) →
    (b[1] = true →
      crcFn s.params (unfold (s.rxBuf.read 0) :: s.rxBuf.read 1 ::
          s.rxBuf.readBytes 2 (unfold (s.rxBuf.read 0)).toNat) =
        s.rxBuf.read (2 + (unfold (s.rxBuf.read 0)).toNat)) →
    ∃ t, exec i s = .next t ∧
      t.pktCmd = s.rxBuf.read 1 ∧ t.pktLen = unfold (s.rxBuf.read 0) ∧
      t.pktOrder = b[0] ∧ t.pktCrc = b[1] ∧ t.pktValid = true ∧
      payloadOf t = s.rxBuf.readBytes 2 (unfold (s.rxBuf.read 0)).toNat ∧
      t.rxActive = false ∧ t.rxMask = 0 ∧
      (∀ a, t.rxBuf.read a = s.rxBuf.read a) ∧ t.rxLen = s.rxLen ∧
      t.rxHeadC = s.rxHeadC ∧ t.rxHeadE = s.rxHeadE ∧
      SameTx s t ∧ t.errRxOvf = s.errRxOvf ∧ PushedOnto 0x01 s t

/-- 42 R95: a TAIL in a frame always ends it, and leaves `rx_len` and `rx_buf` as they are. -/
def Obligations.TailAlwaysEndsTheFrame : Prop :=
  ∀ (i : Instr) (b : Byte) (s : State), wireByte i = some b → 0xC0 ≤ b.toNat → b.toNat ≤ 0xC3 →
    s.rxActive = true →
    ∃ t, exec i s = .next t ∧ t.rxActive = false ∧ t.rxMask = 0 ∧ t.rxLen = s.rxLen ∧
      (∀ a, t.rxBuf.read a = s.rxBuf.read a)

/-- 42 R85, R86: RX_BYTE is the row of the byte's class, chosen by the byte alone.
That the rows are operations of their own beside RX_BYTE is the model's choice (log entry 6). -/
def Obligations.RxByteIsItsClassRow : Prop :=
  ∀ (b : Byte) (s : State), ∃ t, exec (.rxByte b) s = .next t ∧ exec (decodeWire b) s = .next t

/-- 42 R87: outside a frame, only an operation that brings a HEAD byte leaves the block in one. -/
def Obligations.OnlyHeadEntersAFrame : Prop :=
  ∀ (i : Instr) (s t : State), s.rxActive = false → exec i s = .next t → t.rxActive = true →
    ∃ b, wireByte i = some b ∧ 0xC4 ≤ b.toNat ∧ b.toNat ≤ 0xC7

/-- 10 R18: `pkt_valid` rises only at a TAIL in a frame and falls only at a HEAD or RESET. -/
def Obligations.PacketValidRisesAtTailFallsAtHead : Prop :=
  ∀ (i : Instr) (s t : State), exec i s = .next t →
    (s.pktValid = false → t.pktValid = true →
      s.rxActive = true ∧ ∃ b, wireByte i = some b ∧ 0xC0 ≤ b.toNat ∧ b.toNat ≤ 0xC3) ∧
    (s.pktValid = true → t.pktValid = false →
      i = .reset ∨ ∃ b, wireByte i = some b ∧ 0xC4 ≤ b.toNat ∧ b.toNat ≤ 0xC7)

/-- 44 R131, 70 R162: a valid packet, its payload included, stays as it is under every operation
but a HEAD byte and RESET. -/
def Obligations.PacketStableUntilHead : Prop :=
  ∀ (i : Instr) (s t : State), Inv s → s.pktValid = true → exec i s = .next t →
    bringsHead i = false → i ≠ .reset → packetOf t = packetOf s

/-! ### The encoder -/

/-- 41 R76, R81: ENCODE's argument checks in their order, and a refused ENCODE changes nothing.
The operand L is the number of payload bytes (log entry 8). -/
def Obligations.EncodeChecksItsArguments : Prop :=
  ∀ (cmd : Byte) (e c : Bool) (payload : List Byte) (s : State),
    (cmd.extractLsb' 6 2 = 0b11 ∨ s.params.payloadCap < payload.length) →
    ∃ t, exec (.encode cmd e c payload) s = .next t ∧
      t.result = .encode (if cmd.extractLsb' 6 2 = 0b11 then .badCommand else .tooLarge) ∧
      SameBlock s t

/-- 41 R79: a whole frame longer than TX_CAP is refused, and nothing is written. -/
def Obligations.EncodeRefusesAFrameOverCapacity : Prop :=
  ∀ (cmd : Byte) (e c : Bool) (payload : List Byte) (s : State),
    cmd.extractLsb' 6 2 ≠ 0b11 → payload.length ≤ s.params.payloadCap →
    s.params.txCap < (wireFrame s.params cmd e c payload).length →
    ∃ t, exec (.encode cmd e c payload) s = .next t ∧ t.result = .encode .tooLarge ∧
      SameBlock s t

/-- 41 R75, R80: a legal ENCODE stores the frame, byte by byte as R80 lists it, and its length; no
other byte of `tx_buf` and no other element changes. -/
def Obligations.EncodeStoresTheFrame : Prop :=
  ∀ (cmd : Byte) (e c : Bool) (payload : List Byte) (s : State),
    cmd.extractLsb' 6 2 ≠ 0b11 → payload.length ≤ s.params.payloadCap →
    4 + (payload.length + crcCount c) + esc (runOf s.params cmd c payload) ≤ s.params.txCap →
    ∃ t, exec (.encode cmd e c payload) s = .next t ∧ t.result = .encode .ok ∧
      t.txLen = 4 + (payload.length + crcCount c) + esc (runOf s.params cmd c payload) ∧
      t.txBuf.read 0 = 0xC4 ||| (flagBit c <<< 1) ||| flagBit e ∧
      t.txBuf.read 1 = fold (BitVec.ofNat 8 payload.length) ∧
      t.txBuf.read 2 = cmd ∧
      t.txBuf.readBytes 3 (t.txLen - 4) = stuff (runOf s.params cmd c payload) ∧
      t.txBuf.read (t.txLen - 1) = 0xC0 ||| (flagBit c <<< 1) ||| flagBit e ∧
      (∀ a, t.txLen ≤ a → t.txBuf.read a = s.txBuf.read a) ∧
      SameRx s t ∧ SamePacket s t ∧ SameEvents s t ∧ SameErrors s t

/-- 41 R79, 30 R62: with TX_CAP at least its default, every legal ENCODE succeeds. -/
def Obligations.DefaultTxCapFitsEveryLegalFrame : Prop :=
  ∀ (cmd : Byte) (e c : Bool) (payload : List Byte) (s : State),
    cmd.extractLsb' 6 2 ≠ 0b11 → payload.length ≤ s.params.payloadCap →
    defaultTxCap s.params.payloadCap ≤ s.params.txCap →
    ∃ t, exec (.encode cmd e c payload) s = .next t ∧ t.result = .encode .ok

/-- 41 R75: ENCODE reads no state, so two blocks of equal parameters answer alike and store the
same frame. -/
def Obligations.EncodeReadsNoState : Prop :=
  ∀ (cmd : Byte) (e c : Bool) (payload : List Byte) (s s' t t' : State), s.params = s'.params →
    exec (.encode cmd e c payload) s = .next t → exec (.encode cmd e c payload) s' = .next t' →
    t.result = t'.result ∧ (t.result = .encode .ok → txFrame t = txFrame t')

/-- 41 R78(a), (c): the only control bytes of a stuffed run are the ESCAPE bytes it inserted, and
they have bit 0 of their mask set. -/
def Obligations.StuffedControlBytesAreOddEscapes : Prop :=
  ∀ (r : List Byte) (b : Byte), b ∈ stuff r → isControl b = true →
    b.extractLsb' 4 4 = 0xD ∧ b[0] = true

/-- 41 R78(b), (d): stuffing adds one byte a window, at most one for each four bytes or part of
four, and none where no byte collides. -/
def Obligations.StuffingAddsOneByteAWindow : Prop :=
  ∀ (r : List Byte), (stuff r).length = r.length + esc r ∧ esc r ≤ (r.length + 3) / 4 ∧
    ((∀ b ∈ r, collides b = false) → stuff r = r)

/-- 41 R78(e): in a frame with an empty mask, feeding a stuffed run to RX_BYTE stores the run. -/
def Obligations.DestuffingInvertsStuffing : Prop :=
  ∀ (r : List Byte) (s : State), s.rxActive = true → s.rxMask = 0 →
    s.rxLen + r.length ≤ s.params.rxCap →
    ∃ t, receiveBytes (stuff r) s = .next t ∧ t.rxActive = true ∧ t.rxMask = 0 ∧
      t.rxLen = s.rxLen + r.length ∧ t.rxBuf.readBytes s.rxLen r.length = r ∧
      (∀ a, a < s.rxLen → t.rxBuf.read a = s.rxBuf.read a)

/-- 42 R103: a frame encoded by one block and fed to a block of equal parameters, in any state,
decodes to the packet that was encoded. -/
def Obligations.EncodedFrameRoundTrips : Prop :=
  ∀ (cmd : Byte) (e c : Bool) (payload : List Byte) (s t v : State),
    s.params.Legal → s.params.payloadCap + 3 ≤ s.params.rxCap → v.params = s.params →
    exec (.encode cmd e c payload) s = .next t → t.result = .encode .ok →
    ∃ u, receiveBytes (txFrame t) v = .next u ∧
      u.pktValid = true ∧ u.pktCmd = cmd ∧ u.pktOrder = e ∧ u.pktCrc = c ∧
      u.pktLen.toNat = payload.length ∧ payloadOf u = payload

/-! ### The event stack -/

/-- 43 R105, R109: EV_PUSH tests full first, then the duplicate of `stk[sp]`, else stores above. -/
def Obligations.EvPushTestsThenStores : Prop :=
  ∀ (code : EventCode) (s : State), s.sp ≤ s.params.evCap - 1 →
    ∃ t, exec (.evPush code) s = .next t ∧
      t.result = .push (if s.sp = s.params.evCap - 1 then .full
        else if s.stk.read s.sp = code then .dup else .stored) ∧
      PushedOnto code s t ∧ t.errRxOvf = s.errRxOvf ∧
      SameRx s t ∧ SamePacket s t ∧ SameTx s t

/-- 43 R106: EV_POP answers Idle and changes nothing when empty, else the top, which it leaves in
its slot. -/
def Obligations.EvPopAnswersTheTop : Prop :=
  ∀ (s : State), ∃ t, exec .evPop s = .next t ∧
    t.result = .event (if s.sp = 0 then 0x00 else s.stk.read s.sp) ∧
    t.sp = (if s.sp = 0 then 0 else s.sp - 1) ∧
    (∀ i, t.stk.read i = s.stk.read i) ∧
    SameRx s t ∧ SamePacket s t ∧ SameTx s t ∧ SameErrors s t

/-- 43 R112(d): a push that was stored, followed at once by a pop, answers the code and restores
`sp`. -/
def Obligations.PopAfterStoredPush : Prop :=
  ∀ (code : EventCode) (s t : State), exec (.evPush code) s = .next t →
    t.result = .push .stored →
    ∃ u, exec .evPop t = .next u ∧ u.result = .event code ∧ u.sp = s.sp ∧
      (∀ i, i ≠ s.sp + 1 → u.stk.read i = s.stk.read i)

/-- 43 R112(a): of two pushes of one code in a row the second stores nothing. -/
def Obligations.SecondEqualPushStoresNothing : Prop :=
  ∀ (code : EventCode) (s t : State), s.sp < s.params.evCap - 1 →
    exec (.evPush code) s = .next t →
    ∃ u, exec (.evPush code) t = .next u ∧ u.sp = t.sp ∧ u.sp ≤ s.sp + 1 ∧
      (∀ i, u.stk.read i = t.stk.read i) ∧
      u.result = .push (if t.sp = t.params.evCap - 1 then .full else .dup)

/-- 43 R110, 44 R115: with no Idle among the live events and no other agent at work, the driver's
loop delivers all of them, newest first, and ends with the stack empty (log entry 19). -/
def Obligations.DriverDrainsNewestFirst : Prop :=
  ∀ (s : State), (∀ k, 1 ≤ k → k ≤ s.sp → s.stk.read k ≠ idle) →
    ∃ t, runPendingWork recordEvents (s.sp + 1) [] s [] = .next (t, some (liveEvents s)) ∧ t.sp = 0

/-- 10 R22: no operation but RESET writes slot 0, and RESET leaves Idle there. -/
def Obligations.SlotZeroIsNeverWritten : Prop :=
  ∀ (i : Instr) (s t : State), exec i s = .next t →
    t.stk.read 0 = (if i = .reset then 0x00 else s.stk.read 0)

/-! ### Flags, RESET and the rest of the operations -/

/-- 60 R141: ERR_CLEAR clears both flags and changes nothing else. -/
def Obligations.ErrClearClearsBothFlags : Prop :=
  ∀ (s : State), ∃ t, exec .errClear s = .next t ∧
    t.errRxOvf = false ∧ t.errEvFull = false ∧
    SameRx s t ∧ SamePacket s t ∧ SameTx s t ∧ SameEvents s t

/-- 70 R155, 10 R28: RESET puts every element of the block at its reset value. -/
def Obligations.ResetGivesTheResetTable : Prop :=
  ∀ (s : State), ∃ t, exec .reset s = .next t ∧
    (∀ i, t.rxBuf.read i = 0x00) ∧ t.rxLen = 0 ∧ t.rxMask = 0 ∧ t.rxActive = false ∧
    t.rxHeadC = false ∧ t.rxHeadE = false ∧
    t.pktValid = false ∧ t.pktCmd = 0x00 ∧ t.pktLen = 0 ∧ t.pktOrder = false ∧ t.pktCrc = false ∧
    (∀ i, t.txBuf.read i = 0x00) ∧ t.txLen = 0 ∧
    (∀ i, t.stk.read i = 0x00) ∧ t.sp = 0 ∧ t.errRxOvf = false ∧ t.errEvFull = false

/-- 00 R8, 60 R137 X14: the unassigned select codes change no element of the block. -/
def Obligations.ReservedSelectsDoNothing : Prop :=
  ∀ (i : Instr) (s : State), (i = .opReserved6 ∨ i = .opReserved7) →
    ∃ t, exec i s = .next t ∧ t.result = .none ∧ SameBlock s t

/-- 00 R8's result column: only ENCODE, EV_PUSH and EV_POP return anything.
That a result stands in the field `result` is the model's choice (log entry 4). -/
def Obligations.OnlyThreeOperationsReturn : Prop :=
  ∀ (i : Instr) (s : State), ∃ t, exec i s = .next t ∧
    ((∃ r, t.result = .encode r) ↔ ∃ cmd e c payload, i = .encode cmd e c payload) ∧
    ((∃ r, t.result = .push r) ↔ ∃ code, i = .evPush code) ∧
    ((∃ code, t.result = .event code) ↔ i = .evPop)

/-- 10 R23, 60 R140: a sticky flag stays 1 until ERR_CLEAR or RESET. -/
def Obligations.FlagsAreSticky : Prop :=
  ∀ (i : Instr) (s t : State), exec i s = .next t → i ≠ .errClear → i ≠ .reset →
    (s.errRxOvf = true → t.errRxOvf = true) ∧ (s.errEvFull = true → t.errEvFull = true)

/-- 60 R137, R140: `err_rx_ovf` rises only at a data byte in a frame with the buffer full, and
`err_ev_full` only at a push, EV_PUSH's or a TAIL's. -/
def Obligations.FlagsRiseOnlyAtTheirConditions : Prop :=
  ∀ (i : Instr) (s t : State), exec i s = .next t →
    (s.errRxOvf = false → t.errRxOvf = true →
      s.rxActive = true ∧ s.params.rxCap ≤ s.rxLen ∧
        ∃ b, wireByte i = some b ∧ b.toNat ≤ 0xBF) ∧
    (s.errEvFull = false → t.errEvFull = true →
      s.params.evCap - 1 ≤ s.sp ∧
        ((∃ code, i = .evPush code) ∨
          s.rxActive = true ∧ ∃ b, wireByte i = some b ∧ 0xC0 ≤ b.toNat ∧ b.toNat ≤ 0xC3))

/-- 10 R23, 60 R140: no rule reads either flag, so states that differ in the flags alone go to
states that differ in the flags alone. -/
def Obligations.FlagsAreNeverRead : Prop :=
  ∀ (i : Instr) (s t : State) (f g : Bool), exec i s = .next t →
    ∃ f' g', exec i { s with errRxOvf := f, errEvFull := g } =
      .next { t with errRxOvf := f', errEvFull := g' }

/-- 10 R20, 43 R106: no operation reads a slot above `sp`, so states that agree up to `sp` go to
states that agree up to the new `sp` and in everything else. -/
def Obligations.StaleSlotsAreNeverRead : Prop :=
  ∀ (i : Instr) (s t : State) (m : Slots), (∀ k, k ≤ s.sp → m.read k = s.stk.read k) →
    exec i s = .next t →
    ∃ m', exec i { s with stk := m } = .next { t with stk := m' } ∧
      ∀ k, k ≤ t.sp → m'.read k = t.stk.read k

/-- 10 R19: no result depends on `tx_buf` at or above `tx_len`, so states that agree below it go to
states that agree below the new `tx_len` and in everything else. -/
def Obligations.StaleTransmitBytesAreNeverRead : Prop :=
  ∀ (i : Instr) (s t : State) (m : Memory), (∀ k, k < s.txLen → m.read k = s.txBuf.read k) →
    exec i s = .next t →
    ∃ m', exec i { s with txBuf := m } = .next { t with txBuf := m' } ∧
      ∀ k, k < t.txLen → m'.read k = t.txBuf.read k

/-- 10 R29: which operation writes what, by columns: bytes from the wire leave the transmit side,
the rest but RESET leave the receive side, and only pushes and pops move the stack. -/
def Obligations.OperationsWriteOnlyTheirColumns : Prop :=
  ∀ (i : Instr) (s t : State), exec i s = .next t → i ≠ .reset →
    ((∀ cmd e c payload, i ≠ .encode cmd e c payload) → SameTx s t) ∧
    (wireByte i = none → SameRx s t ∧ SamePacket s t) ∧
    ((∀ code, i ≠ .evPush code) → i ≠ .evPop → bringsTail i = false → SameEvents s t)

/-- 00 R6, 70 R157, R158: no operation changes a parameter, and none touches what the environment
has yet to apply. That both stand in State is the model's choice (log entries 1 and 2). -/
def Obligations.ParametersNeverChange : Prop :=
  ∀ (i : Instr) (s t : State), exec i s = .next t →
    t.params = s.params ∧ t.pending = s.pending

/-! ### Primitives and encodings -/

/-- 40 R67: clearing the marker of a colliding byte gives a data byte, and restoring undoes it. -/
def Obligations.RestoreUndoesClear : Prop :=
  ∀ (d : Byte), collides d = true →
    isControl (clearMarker d) = false ∧ restoreMarker (clearMarker d) = d

/-- 40 R68, R69: the fold exchanges bits 7 and 6, keeps the rest, is its own inverse, and keeps the
marker pattern. -/
def Obligations.FoldExchangesTheTopBits : Prop :=
  ∀ (l : Byte), (fold l)[7] = l[6] ∧ (fold l)[6] = l[7] ∧
    (fold l).extractLsb' 0 6 = l.extractLsb' 0 6 ∧
    unfold (fold l) = l ∧ fold (unfold l) = l ∧ isControl (fold l) = isControl l

/-- 30 R47: every byte is of exactly one class, the one its range names, and the row keeps every
bit of it. -/
def Obligations.WireBytesHaveOneClass : Prop :=
  ∀ (b : Byte), wireByte (decodeWire b) = some b ∧
    ((∃ d, decodeWire b = .dataLo d) ↔ b.toNat ≤ 0x7F) ∧
    ((∃ d, decodeWire b = .dataHi d) ↔ 0x80 ≤ b.toNat ∧ b.toNat ≤ 0xBF) ∧
    ((∃ c e, decodeWire b = .tail c e) ↔ 0xC0 ≤ b.toNat ∧ b.toNat ≤ 0xC3) ∧
    ((∃ c e, decodeWire b = .head c e) ↔ 0xC4 ≤ b.toNat ∧ b.toNat ≤ 0xC7) ∧
    ((∃ x, decodeWire b = .unknownA x) ↔ 0xC8 ≤ b.toNat ∧ b.toNat ≤ 0xCF) ∧
    ((∃ m, decodeWire b = .escape m) ↔ 0xD0 ≤ b.toNat ∧ b.toNat ≤ 0xDF) ∧
    ((∃ x, decodeWire b = .unknownB x) ↔ 0xE0 ≤ b.toNat)

/-- 30 R47, 00 R8: one word of each row of the opcode table, bit by bit from its encoding.
The two forms of request and the operand layout are the model's choice (log entries 5 and 6). -/
def Obligations.SampleWordsDecode : Prop :=
  decode Params.default (.wire 0b01000100) = .ok (.dataLo 0b1000100) ∧
  decode Params.default (.wire 0b10100101) = .ok (.dataHi 0b100101) ∧
  decode Params.default (.wire 0b11000001) = .ok (.tail false true) ∧
  decode Params.default (.wire 0b11000110) = .ok (.head true false) ∧
  decode Params.default (.wire 0b11001011) = .ok (.unknownA 0b011) ∧
  decode Params.default (.wire 0b11010101) = .ok (.escape 0b0101) ∧
  decode Params.default (.wire 0b11101110) = .ok (.unknownB 0b01110) ∧
  decode Params.default (.op 0b000 []) = .ok .reset ∧
  decode Params.default (.op 0b001 [0xC4]) = .ok (.rxByte 0xC4) ∧
  decode Params.default (.op 0b010 [0x04, 0b00000001, 0x02, 0xC0, 0x11]) =
    .ok (.encode 0x04 true false [0xC0, 0x11]) ∧
  decode Params.default (.op 0b011 [0x02]) = .ok (.evPush 2) ∧
  decode Params.default (.op 0b100 []) = .ok .evPop ∧
  decode Params.default (.op 0b101 []) = .ok .errClear ∧
  decode Params.default (.op 0b110 []) = .ok .opReserved6 ∧
  decode Params.default (.op 0b111 []) = .ok .opReserved7

/-- 30 R47, 00 R8: decoding the request of a well-formed operation gives it back, every operand at
every value. The layout of operand bytes is the model's choice (log entry 5). -/
def Obligations.DecodeInvertsEncode : Prop :=
  ∀ (p : Params) (i : Instr), wellFormed p i = true → decode p (encode p i) = .ok i

/-- Every operation the decoder answers is well-formed. The operand layout is the model's choice
(log entry 5). -/
def Obligations.DecodedOperationsAreWellFormed : Prop :=
  ∀ (p : Params) (r : Request) (i : Instr), decode p r = .ok i → wellFormed p i = true

/-- 30 R58: a packed Command byte is never a control byte, and its fields are read back. -/
def Obligations.PackedCommandIsData : Prop :=
  ∀ (c : Command), isControl c.pack = false ∧ Command.unpack c.pack = c

/-- 44 R121: the Pending frame's one payload byte is the exact wire length of the response just
encoded.
E and C of the Pending frame are any, the dispatch layer's choice (log entry 11). That the service
and subfunction of a Command byte with bit 7 set are read all the same is the model's choice (log
entry 17). -/
def Obligations.PendingAnnouncesTheWireLength : Prop :=
  ∀ (cmd : Byte) (e c e' c' : Bool) (payload : List Byte) (p : Packet) (s t : State),
    s.params.Legal → exec (.encode cmd e c payload) s = .next t → t.result = .encode .ok →
    4 ≤ t.txLen ∧ t.txLen ≤ s.params.txCap ∧
    ∃ command byte, pendingFrame e' c' p t.txLen = .encode command e' c' [byte] ∧
      byte.toNat = t.txLen ∧ (Command.unpack command).status = .pending ∧
      (Command.unpack command).service = (Command.unpack p.cmd).service ∧
      (Command.unpack command).subfunction = (Command.unpack p.cmd).subfunction

/-! ### The whole machine -/

/-- 60 R135: every operation has a successor in every state. -/
def Obligations.EveryOperationCompletes : Prop :=
  ∀ (i : Instr) (s : State), ∃ t, exec i s = .next t

/-- 20 R39: a step applies the operation of the next request, taken off what is
pending. That the order of operations is a list in State is the model's choice (log entry 1). -/
def Obligations.StepAppliesTheDecodedOperation : Prop :=
  ∀ (s : State) (r : Request) (rest : List Request) (i : Instr), s.pending = r :: rest →
    decode s.params r = .ok i → step s = exec i (setPending rest s)

/-- 60 R148: with nothing to apply, a step changes nothing.
That there is an idle step is the model's choice (log entry 1). -/
def Obligations.IdleStepChangesNothing : Prop :=
  ∀ (s : State), s.pending = [] → step s = .next s

/-- 60 R135 for `step`: the request of a well-formed operation is always applied, and completes.
The requests and their layout are the model's choice (log entries 1 and 5). -/
def Obligations.WellFormedRequestsComplete : Prop :=
  ∀ (s : State) (i : Instr) (rest : List Request), wellFormed s.params i = true →
    s.pending = encode s.params i :: rest →
    ∃ t, step s = .next t ∧ t.pending = rest ∧ t.params = s.params

/-- 10 R28, R27: the reset state meets the invariants.
Its parameters are the default column of 00 R6 (log entry 2). The form of the arrays, canonical lists
whose unlisted indices read 0x00, is the model's choice and no part of R27 (log entry 10). -/
def Obligations.ResetMeetsTheInvariants : Prop := Inv State.reset

/-- 10 R27: every step keeps I-1 to I-7, and beside them the form of the arrays and the bounds on
their indices. That form, and the step that takes the next request of a list, are the model's choice
(log entries 10 and 1). -/
def Obligations.StepKeepsTheInvariants : Prop :=
  ∀ (s t : State), Inv s → step s = .next t → Inv t

/-! ### The environment -/

/-- 44 R115, R116: an event that another agent pushes while the driver's loop runs, after the loop
has popped `k` events, is delivered in the same invocation, before the older ones.
The form in which other agents' operations fall between two pops is the model's choice (log entry
19). -/
def Obligations.EventPushedMeanwhileIsDeliveredNext : Prop :=
  ∀ (s : State) (k : Nat) (code : EventCode),
    (∀ j, 1 ≤ j → j ≤ s.sp → s.stk.read j ≠ idle) → k ≤ s.sp → code ≠ idle →
    s.stk.read (s.sp - k) ≠ code → s.sp - k < s.params.evCap - 1 →
    ∃ t, runPendingWork recordEvents (s.sp + 2) (List.replicate k [] ++ [[.evPush code]]) s [] =
        .next (t, some ((liveEvents s).take k ++ code :: (liveEvents s).drop k)) ∧ t.sp = 0

/-- 44 R127: `build_request`, with no other agent at work (log entry 19), answers the wire bytes of
the request frame, its Command byte packed with status Request, its E the byte order of the host,
and leaves them in `tx_buf`.
The probe of the host's byte order is the model's choice of form (log entry 11). -/
def Obligations.BuildRequestAnswersTheWireBytes : Prop :=
  ∀ (store : BitVec 32 → List Byte) (service : BitVec 3) (subfunction : BitVec 2)
    (payload : List Byte) (useCrc : Bool) (s : State),
    payload.length ≤ s.params.payloadCap → defaultTxCap s.params.payloadCap ≤ s.params.txCap →
    ∃ t, (buildRequest store service subfunction payload useCrc).run [] s =
        .next (t, .ok (txFrame t)) ∧
      txFrame t = wireFrame s.params (0#1 ++ service ++ subfunction ++ 0b00#2)
        (nativeByteOrder store) useCrc payload

/-- 44 R120 to R122: of a request that was served and announced with no other agent at work (log
entry 19; another ENCODE before the read-out would break it), the Pending frame, received by a
block of equal parameters in any state, decodes to a packet that names the wire length of the held
response; pulling exactly that many bytes and receiving them decodes to that response, of the same
service and subfunction, with the handler's payload or, on failure, none.
The first bytes of the held frame as what a pull gets (log entry 11), and reading the fields of a
Command byte with bit 7 set (log entry 17), are the model's choice. -/
def Obligations.AnnouncedResponseIsRetrieved : Prop :=
  ∀ (table : BitVec 3 → Handler) (e c e' c' : Bool) (p : Packet) (s t v : State)
    (a : Announcement),
    s.params.Legal → s.params.payloadCap + 3 ≤ s.params.rxCap → v.params = s.params →
    (Command.unpack p.cmd).status = .request →
    (dispatchPacket table e c e' c' p).run [] s = .next (t, .announced a) →
    ∃ u w q r n, receiveBytes a.sent v = .next u ∧ packetOf u = some q ∧
      Command.unpack q.cmd = { Command.unpack p.cmd with status := .pending } ∧
      q.payload = [n] ∧ n.toNat = a.held.length ∧
      receiveBytes (retrieve n a.held) u = .next w ∧ packetOf w = some r ∧
      match table (Command.unpack p.cmd).service p with
      | some reply =>
        Command.unpack r.cmd = { Command.unpack p.cmd with status := .positiveResponse } ∧
          r.payload = reply
      | none =>
        Command.unpack r.cmd = { Command.unpack p.cmd with status := .negativeResponse } ∧
          r.payload = []

/-- 44 R124, R125, R118: the service table has the read service at id 0, which answers 4 bytes or 1
byte of the accessor's view at the address of payload bytes 0 to 3, taken in the order the tags'
agreement gives; any other subfunction fails. Another id has its own handler, and fails where its
entry is unpopulated.
What a short payload or a view of too few bytes gives is open and stands in two arguments (log entry
11), and so is the reading of a Command byte with bit 7 set (log entry 17). -/
def Obligations.ReadServiceAnswersTheBytes : Prop :=
  ∀ (services : Services) (p : Packet) (b0 b1 b2 b3 : Byte) (rest view : List Byte),
    view = services.resolve
      (if p.order = services.localOrder then b3 ++ b2 ++ b1 ++ b0 else b0 ++ b1 ++ b2 ++ b3) →
    (p.payload = b0 :: b1 :: b2 :: b3 :: rest →
      ((Command.unpack p.cmd).subfunction = 1 → 4 ≤ view.length →
        serviceTable services 0 p = some (view.take 4)) ∧
      ((Command.unpack p.cmd).subfunction = 2 → 1 ≤ view.length →
        serviceTable services 0 p = some (view.take 1))) ∧
    ((Command.unpack p.cmd).subfunction = 0 ∨ (Command.unpack p.cmd).subfunction = 3 →
      serviceTable services 0 p = none) ∧
    (∀ service handler, service ≠ 0 → services.others service = some handler →
      serviceTable services service p = handler p) ∧
    (∀ service, service ≠ 0 → services.others service = none →
      serviceTable services service p = none)
end

