-- ==== Sys2Proof/Laws/Encoding.lean ====
section
/-! SUPPORT. The decoder by select code, and the operand bytes of an event code. -/

namespace Sys2Proof

@[simp] theorem decodeSelect_0 (p : Params) (l : List Byte) :
    decodeSelect p 0#3 l = decodeBare .reset l := rfl
@[simp] theorem decodeSelect_1 (p : Params) (l : List Byte) :
    decodeSelect p 1#3 l = decodeRxByte l := rfl
@[simp] theorem decodeSelect_2 (p : Params) (l : List Byte) :
    decodeSelect p 2#3 l = decodeEncode l := rfl
@[simp] theorem decodeSelect_3 (p : Params) (l : List Byte) :
    decodeSelect p 3#3 l = decodeEvPush p l := rfl
@[simp] theorem decodeSelect_4 (p : Params) (l : List Byte) :
    decodeSelect p 4#3 l = decodeBare .evPop l := rfl
@[simp] theorem decodeSelect_5 (p : Params) (l : List Byte) :
    decodeSelect p 5#3 l = decodeBare .errClear l := rfl
@[simp] theorem decodeSelect_6 (p : Params) (l : List Byte) :
    decodeSelect p 6#3 l = .ok .opReserved6 := rfl
@[simp] theorem decodeSelect_7 (p : Params) (l : List Byte) :
    decodeSelect p 7#3 l = .ok .opReserved7 := rfl

/-- Every 3-bit select code is one of the eight of 00 R8. -/
theorem select_cases : ∀ c : BitVec 3, c = 0#3 ∨ c = 1#3 ∨ c = 2#3 ∨ c = 3#3 ∨ c = 4#3 ∨
    c = 5#3 ∨ c = 6#3 ∨ c = 7#3 := by decide

@[simp] theorem length_bytesOfNat (n : Nat) : ∀ v, (bytesOfNat n v).length = n := by
  induction n with
  | zero => intro v; rfl
  | succ n ih => intro v; simp [bytesOfNat, ih]

theorem natOfBytes_bytesOfNat (n : Nat) :
    ∀ v, v < 256 ^ n → natOfBytes (bytesOfNat n v) = v := by
  induction n with
  | zero => intro v h; simp at h; simp [bytesOfNat, natOfBytes, h]
  | succ n ih =>
    intro v h
    rw [Nat.pow_succ] at h
    simp only [bytesOfNat, natOfBytes]
    rw [ih _ (Nat.div_lt_of_lt_mul (by omega)), BitVec.toNat_ofNat]
    omega

/-- An event code of EVW bits fits its operand bytes. -/
theorem eventCode_lt (p : Params) {code : EventCode} (h : code < 2 ^ p.evWidth) :
    code < 256 ^ eventBytes p := by
  refine lt_of_lt_of_le h ?_
  rw [show (256 : Nat) = 2 ^ 8 from rfl, ← Nat.pow_mul]
  exact Nat.pow_le_pow_right (by omega) (by simp only [eventBytes]; omega)

/-- ENCODE's flag byte keeps its two flags and sets no other bit. -/
theorem flagByte_fields : ∀ e c : Bool,
    (flagByte e c).extractLsb' 2 6 = 0 ∧ (flagByte e c)[0] = e ∧ (flagByte e c)[1] = c := by decide

end Sys2Proof
end

