-- ==== Sys2Proof/Laws/State.lean ====
section
/-! SUPPORT. One lemma per field per update of State, so that no later proof unfolds an update. -/

namespace Sys2Proof.Machine

/-! ### setResult -/

@[simp] theorem setResult_params (r : Result) (s : State) :
    (setResult r s).params = s.params := rfl
@[simp] theorem setResult_rxBuf (r : Result) (s : State) :
    (setResult r s).rxBuf = s.rxBuf := rfl
@[simp] theorem setResult_rxLen (r : Result) (s : State) :
    (setResult r s).rxLen = s.rxLen := rfl
@[simp] theorem setResult_rxMask (r : Result) (s : State) :
    (setResult r s).rxMask = s.rxMask := rfl
@[simp] theorem setResult_rxActive (r : Result) (s : State) :
    (setResult r s).rxActive = s.rxActive := rfl
@[simp] theorem setResult_rxHeadC (r : Result) (s : State) :
    (setResult r s).rxHeadC = s.rxHeadC := rfl
@[simp] theorem setResult_rxHeadE (r : Result) (s : State) :
    (setResult r s).rxHeadE = s.rxHeadE := rfl
@[simp] theorem setResult_pktValid (r : Result) (s : State) :
    (setResult r s).pktValid = s.pktValid := rfl
@[simp] theorem setResult_pktCmd (r : Result) (s : State) :
    (setResult r s).pktCmd = s.pktCmd := rfl
@[simp] theorem setResult_pktLen (r : Result) (s : State) :
    (setResult r s).pktLen = s.pktLen := rfl
@[simp] theorem setResult_pktOrder (r : Result) (s : State) :
    (setResult r s).pktOrder = s.pktOrder := rfl
@[simp] theorem setResult_pktCrc (r : Result) (s : State) :
    (setResult r s).pktCrc = s.pktCrc := rfl
@[simp] theorem setResult_txBuf (r : Result) (s : State) :
    (setResult r s).txBuf = s.txBuf := rfl
@[simp] theorem setResult_txLen (r : Result) (s : State) :
    (setResult r s).txLen = s.txLen := rfl
@[simp] theorem setResult_stk (r : Result) (s : State) :
    (setResult r s).stk = s.stk := rfl
@[simp] theorem setResult_sp (r : Result) (s : State) :
    (setResult r s).sp = s.sp := rfl
@[simp] theorem setResult_errRxOvf (r : Result) (s : State) :
    (setResult r s).errRxOvf = s.errRxOvf := rfl
@[simp] theorem setResult_errEvFull (r : Result) (s : State) :
    (setResult r s).errEvFull = s.errEvFull := rfl
@[simp] theorem setResult_result (r : Result) (s : State) :
    (setResult r s).result = r := rfl
@[simp] theorem setResult_pending (r : Result) (s : State) :
    (setResult r s).pending = s.pending := rfl

/-! ### openFrame -/

@[simp] theorem openFrame_params (c e : Bool) (s : State) :
    (openFrame c e s).params = s.params := rfl
@[simp] theorem openFrame_rxBuf (c e : Bool) (s : State) :
    (openFrame c e s).rxBuf = s.rxBuf := rfl
@[simp] theorem openFrame_rxLen (c e : Bool) (s : State) :
    (openFrame c e s).rxLen = 0 := rfl
@[simp] theorem openFrame_rxMask (c e : Bool) (s : State) :
    (openFrame c e s).rxMask = 0 := rfl
@[simp] theorem openFrame_rxActive (c e : Bool) (s : State) :
    (openFrame c e s).rxActive = true := rfl
@[simp] theorem openFrame_rxHeadC (c e : Bool) (s : State) :
    (openFrame c e s).rxHeadC = c := rfl
@[simp] theorem openFrame_rxHeadE (c e : Bool) (s : State) :
    (openFrame c e s).rxHeadE = e := rfl
@[simp] theorem openFrame_pktValid (c e : Bool) (s : State) :
    (openFrame c e s).pktValid = false := rfl
@[simp] theorem openFrame_pktCmd (c e : Bool) (s : State) :
    (openFrame c e s).pktCmd = s.pktCmd := rfl
@[simp] theorem openFrame_pktLen (c e : Bool) (s : State) :
    (openFrame c e s).pktLen = s.pktLen := rfl
@[simp] theorem openFrame_pktOrder (c e : Bool) (s : State) :
    (openFrame c e s).pktOrder = s.pktOrder := rfl
@[simp] theorem openFrame_pktCrc (c e : Bool) (s : State) :
    (openFrame c e s).pktCrc = s.pktCrc := rfl
@[simp] theorem openFrame_txBuf (c e : Bool) (s : State) :
    (openFrame c e s).txBuf = s.txBuf := rfl
@[simp] theorem openFrame_txLen (c e : Bool) (s : State) :
    (openFrame c e s).txLen = s.txLen := rfl
@[simp] theorem openFrame_stk (c e : Bool) (s : State) :
    (openFrame c e s).stk = s.stk := rfl
@[simp] theorem openFrame_sp (c e : Bool) (s : State) :
    (openFrame c e s).sp = s.sp := rfl
@[simp] theorem openFrame_errRxOvf (c e : Bool) (s : State) :
    (openFrame c e s).errRxOvf = s.errRxOvf := rfl
@[simp] theorem openFrame_errEvFull (c e : Bool) (s : State) :
    (openFrame c e s).errEvFull = s.errEvFull := rfl
@[simp] theorem openFrame_result (c e : Bool) (s : State) :
    (openFrame c e s).result = s.result := rfl
@[simp] theorem openFrame_pending (c e : Bool) (s : State) :
    (openFrame c e s).pending = s.pending := rfl

/-! ### setMask -/

@[simp] theorem setMask_params (m : Mask) (s : State) :
    (setMask m s).params = s.params := rfl
@[simp] theorem setMask_rxBuf (m : Mask) (s : State) :
    (setMask m s).rxBuf = s.rxBuf := rfl
@[simp] theorem setMask_rxLen (m : Mask) (s : State) :
    (setMask m s).rxLen = s.rxLen := rfl
@[simp] theorem setMask_rxMask (m : Mask) (s : State) :
    (setMask m s).rxMask = m := rfl
@[simp] theorem setMask_rxActive (m : Mask) (s : State) :
    (setMask m s).rxActive = s.rxActive := rfl
@[simp] theorem setMask_rxHeadC (m : Mask) (s : State) :
    (setMask m s).rxHeadC = s.rxHeadC := rfl
@[simp] theorem setMask_rxHeadE (m : Mask) (s : State) :
    (setMask m s).rxHeadE = s.rxHeadE := rfl
@[simp] theorem setMask_pktValid (m : Mask) (s : State) :
    (setMask m s).pktValid = s.pktValid := rfl
@[simp] theorem setMask_pktCmd (m : Mask) (s : State) :
    (setMask m s).pktCmd = s.pktCmd := rfl
@[simp] theorem setMask_pktLen (m : Mask) (s : State) :
    (setMask m s).pktLen = s.pktLen := rfl
@[simp] theorem setMask_pktOrder (m : Mask) (s : State) :
    (setMask m s).pktOrder = s.pktOrder := rfl
@[simp] theorem setMask_pktCrc (m : Mask) (s : State) :
    (setMask m s).pktCrc = s.pktCrc := rfl
@[simp] theorem setMask_txBuf (m : Mask) (s : State) :
    (setMask m s).txBuf = s.txBuf := rfl
@[simp] theorem setMask_txLen (m : Mask) (s : State) :
    (setMask m s).txLen = s.txLen := rfl
@[simp] theorem setMask_stk (m : Mask) (s : State) :
    (setMask m s).stk = s.stk := rfl
@[simp] theorem setMask_sp (m : Mask) (s : State) :
    (setMask m s).sp = s.sp := rfl
@[simp] theorem setMask_errRxOvf (m : Mask) (s : State) :
    (setMask m s).errRxOvf = s.errRxOvf := rfl
@[simp] theorem setMask_errEvFull (m : Mask) (s : State) :
    (setMask m s).errEvFull = s.errEvFull := rfl
@[simp] theorem setMask_result (m : Mask) (s : State) :
    (setMask m s).result = s.result := rfl
@[simp] theorem setMask_pending (m : Mask) (s : State) :
    (setMask m s).pending = s.pending := rfl

/-! ### closeFrame -/

@[simp] theorem closeFrame_params (s : State) :
    (closeFrame s).params = s.params := rfl
@[simp] theorem closeFrame_rxBuf (s : State) :
    (closeFrame s).rxBuf = s.rxBuf := rfl
@[simp] theorem closeFrame_rxLen (s : State) :
    (closeFrame s).rxLen = s.rxLen := rfl
@[simp] theorem closeFrame_rxMask (s : State) :
    (closeFrame s).rxMask = 0 := rfl
@[simp] theorem closeFrame_rxActive (s : State) :
    (closeFrame s).rxActive = false := rfl
@[simp] theorem closeFrame_rxHeadC (s : State) :
    (closeFrame s).rxHeadC = s.rxHeadC := rfl
@[simp] theorem closeFrame_rxHeadE (s : State) :
    (closeFrame s).rxHeadE = s.rxHeadE := rfl
@[simp] theorem closeFrame_pktValid (s : State) :
    (closeFrame s).pktValid = s.pktValid := rfl
@[simp] theorem closeFrame_pktCmd (s : State) :
    (closeFrame s).pktCmd = s.pktCmd := rfl
@[simp] theorem closeFrame_pktLen (s : State) :
    (closeFrame s).pktLen = s.pktLen := rfl
@[simp] theorem closeFrame_pktOrder (s : State) :
    (closeFrame s).pktOrder = s.pktOrder := rfl
@[simp] theorem closeFrame_pktCrc (s : State) :
    (closeFrame s).pktCrc = s.pktCrc := rfl
@[simp] theorem closeFrame_txBuf (s : State) :
    (closeFrame s).txBuf = s.txBuf := rfl
@[simp] theorem closeFrame_txLen (s : State) :
    (closeFrame s).txLen = s.txLen := rfl
@[simp] theorem closeFrame_stk (s : State) :
    (closeFrame s).stk = s.stk := rfl
@[simp] theorem closeFrame_sp (s : State) :
    (closeFrame s).sp = s.sp := rfl
@[simp] theorem closeFrame_errRxOvf (s : State) :
    (closeFrame s).errRxOvf = s.errRxOvf := rfl
@[simp] theorem closeFrame_errEvFull (s : State) :
    (closeFrame s).errEvFull = s.errEvFull := rfl
@[simp] theorem closeFrame_result (s : State) :
    (closeFrame s).result = s.result := rfl
@[simp] theorem closeFrame_pending (s : State) :
    (closeFrame s).pending = s.pending := rfl

/-! ### dropFrame -/

@[simp] theorem dropFrame_params (s : State) :
    (dropFrame s).params = s.params := rfl
@[simp] theorem dropFrame_rxBuf (s : State) :
    (dropFrame s).rxBuf = s.rxBuf := rfl
@[simp] theorem dropFrame_rxLen (s : State) :
    (dropFrame s).rxLen = 0 := rfl
@[simp] theorem dropFrame_rxMask (s : State) :
    (dropFrame s).rxMask = 0 := rfl
@[simp] theorem dropFrame_rxActive (s : State) :
    (dropFrame s).rxActive = false := rfl
@[simp] theorem dropFrame_rxHeadC (s : State) :
    (dropFrame s).rxHeadC = s.rxHeadC := rfl
@[simp] theorem dropFrame_rxHeadE (s : State) :
    (dropFrame s).rxHeadE = s.rxHeadE := rfl
@[simp] theorem dropFrame_pktValid (s : State) :
    (dropFrame s).pktValid = s.pktValid := rfl
@[simp] theorem dropFrame_pktCmd (s : State) :
    (dropFrame s).pktCmd = s.pktCmd := rfl
@[simp] theorem dropFrame_pktLen (s : State) :
    (dropFrame s).pktLen = s.pktLen := rfl
@[simp] theorem dropFrame_pktOrder (s : State) :
    (dropFrame s).pktOrder = s.pktOrder := rfl
@[simp] theorem dropFrame_pktCrc (s : State) :
    (dropFrame s).pktCrc = s.pktCrc := rfl
@[simp] theorem dropFrame_txBuf (s : State) :
    (dropFrame s).txBuf = s.txBuf := rfl
@[simp] theorem dropFrame_txLen (s : State) :
    (dropFrame s).txLen = s.txLen := rfl
@[simp] theorem dropFrame_stk (s : State) :
    (dropFrame s).stk = s.stk := rfl
@[simp] theorem dropFrame_sp (s : State) :
    (dropFrame s).sp = s.sp := rfl
@[simp] theorem dropFrame_errRxOvf (s : State) :
    (dropFrame s).errRxOvf = s.errRxOvf := rfl
@[simp] theorem dropFrame_errEvFull (s : State) :
    (dropFrame s).errEvFull = s.errEvFull := rfl
@[simp] theorem dropFrame_result (s : State) :
    (dropFrame s).result = s.result := rfl
@[simp] theorem dropFrame_pending (s : State) :
    (dropFrame s).pending = s.pending := rfl

/-! ### storeRx -/

@[simp] theorem storeRx_params (v : Byte) (s : State) :
    (storeRx v s).params = s.params := rfl
@[simp] theorem storeRx_rxBuf (v : Byte) (s : State) :
    (storeRx v s).rxBuf = s.rxBuf.write s.rxLen v := rfl
@[simp] theorem storeRx_rxLen (v : Byte) (s : State) :
    (storeRx v s).rxLen = s.rxLen + 1 := rfl
@[simp] theorem storeRx_rxMask (v : Byte) (s : State) :
    (storeRx v s).rxMask = s.rxMask := rfl
@[simp] theorem storeRx_rxActive (v : Byte) (s : State) :
    (storeRx v s).rxActive = s.rxActive := rfl
@[simp] theorem storeRx_rxHeadC (v : Byte) (s : State) :
    (storeRx v s).rxHeadC = s.rxHeadC := rfl
@[simp] theorem storeRx_rxHeadE (v : Byte) (s : State) :
    (storeRx v s).rxHeadE = s.rxHeadE := rfl
@[simp] theorem storeRx_pktValid (v : Byte) (s : State) :
    (storeRx v s).pktValid = s.pktValid := rfl
@[simp] theorem storeRx_pktCmd (v : Byte) (s : State) :
    (storeRx v s).pktCmd = s.pktCmd := rfl
@[simp] theorem storeRx_pktLen (v : Byte) (s : State) :
    (storeRx v s).pktLen = s.pktLen := rfl
@[simp] theorem storeRx_pktOrder (v : Byte) (s : State) :
    (storeRx v s).pktOrder = s.pktOrder := rfl
@[simp] theorem storeRx_pktCrc (v : Byte) (s : State) :
    (storeRx v s).pktCrc = s.pktCrc := rfl
@[simp] theorem storeRx_txBuf (v : Byte) (s : State) :
    (storeRx v s).txBuf = s.txBuf := rfl
@[simp] theorem storeRx_txLen (v : Byte) (s : State) :
    (storeRx v s).txLen = s.txLen := rfl
@[simp] theorem storeRx_stk (v : Byte) (s : State) :
    (storeRx v s).stk = s.stk := rfl
@[simp] theorem storeRx_sp (v : Byte) (s : State) :
    (storeRx v s).sp = s.sp := rfl
@[simp] theorem storeRx_errRxOvf (v : Byte) (s : State) :
    (storeRx v s).errRxOvf = s.errRxOvf := rfl
@[simp] theorem storeRx_errEvFull (v : Byte) (s : State) :
    (storeRx v s).errEvFull = s.errEvFull := rfl
@[simp] theorem storeRx_result (v : Byte) (s : State) :
    (storeRx v s).result = s.result := rfl
@[simp] theorem storeRx_pending (v : Byte) (s : State) :
    (storeRx v s).pending = s.pending := rfl

/-! ### latchPacket -/

@[simp] theorem latchPacket_params (cmd len : Byte) (order crc : Bool) (s : State) :
    (latchPacket cmd len order crc s).params = s.params := rfl
@[simp] theorem latchPacket_rxBuf (cmd len : Byte) (order crc : Bool) (s : State) :
    (latchPacket cmd len order crc s).rxBuf = s.rxBuf := rfl
@[simp] theorem latchPacket_rxLen (cmd len : Byte) (order crc : Bool) (s : State) :
    (latchPacket cmd len order crc s).rxLen = s.rxLen := rfl
@[simp] theorem latchPacket_rxMask (cmd len : Byte) (order crc : Bool) (s : State) :
    (latchPacket cmd len order crc s).rxMask = s.rxMask := rfl
@[simp] theorem latchPacket_rxActive (cmd len : Byte) (order crc : Bool) (s : State) :
    (latchPacket cmd len order crc s).rxActive = s.rxActive := rfl
@[simp] theorem latchPacket_rxHeadC (cmd len : Byte) (order crc : Bool) (s : State) :
    (latchPacket cmd len order crc s).rxHeadC = s.rxHeadC := rfl
@[simp] theorem latchPacket_rxHeadE (cmd len : Byte) (order crc : Bool) (s : State) :
    (latchPacket cmd len order crc s).rxHeadE = s.rxHeadE := rfl
@[simp] theorem latchPacket_pktValid (cmd len : Byte) (order crc : Bool) (s : State) :
    (latchPacket cmd len order crc s).pktValid = true := rfl
@[simp] theorem latchPacket_pktCmd (cmd len : Byte) (order crc : Bool) (s : State) :
    (latchPacket cmd len order crc s).pktCmd = cmd := rfl
@[simp] theorem latchPacket_pktLen (cmd len : Byte) (order crc : Bool) (s : State) :
    (latchPacket cmd len order crc s).pktLen = len := rfl
@[simp] theorem latchPacket_pktOrder (cmd len : Byte) (order crc : Bool) (s : State) :
    (latchPacket cmd len order crc s).pktOrder = order := rfl
@[simp] theorem latchPacket_pktCrc (cmd len : Byte) (order crc : Bool) (s : State) :
    (latchPacket cmd len order crc s).pktCrc = crc := rfl
@[simp] theorem latchPacket_txBuf (cmd len : Byte) (order crc : Bool) (s : State) :
    (latchPacket cmd len order crc s).txBuf = s.txBuf := rfl
@[simp] theorem latchPacket_txLen (cmd len : Byte) (order crc : Bool) (s : State) :
    (latchPacket cmd len order crc s).txLen = s.txLen := rfl
@[simp] theorem latchPacket_stk (cmd len : Byte) (order crc : Bool) (s : State) :
    (latchPacket cmd len order crc s).stk = s.stk := rfl
@[simp] theorem latchPacket_sp (cmd len : Byte) (order crc : Bool) (s : State) :
    (latchPacket cmd len order crc s).sp = s.sp := rfl
@[simp] theorem latchPacket_errRxOvf (cmd len : Byte) (order crc : Bool) (s : State) :
    (latchPacket cmd len order crc s).errRxOvf = s.errRxOvf := rfl
@[simp] theorem latchPacket_errEvFull (cmd len : Byte) (order crc : Bool) (s : State) :
    (latchPacket cmd len order crc s).errEvFull = s.errEvFull := rfl
@[simp] theorem latchPacket_result (cmd len : Byte) (order crc : Bool) (s : State) :
    (latchPacket cmd len order crc s).result = s.result := rfl
@[simp] theorem latchPacket_pending (cmd len : Byte) (order crc : Bool) (s : State) :
    (latchPacket cmd len order crc s).pending = s.pending := rfl

/-! ### storeTx -/

@[simp] theorem storeTx_params (wire : List Byte) (s : State) :
    (storeTx wire s).params = s.params := rfl
@[simp] theorem storeTx_rxBuf (wire : List Byte) (s : State) :
    (storeTx wire s).rxBuf = s.rxBuf := rfl
@[simp] theorem storeTx_rxLen (wire : List Byte) (s : State) :
    (storeTx wire s).rxLen = s.rxLen := rfl
@[simp] theorem storeTx_rxMask (wire : List Byte) (s : State) :
    (storeTx wire s).rxMask = s.rxMask := rfl
@[simp] theorem storeTx_rxActive (wire : List Byte) (s : State) :
    (storeTx wire s).rxActive = s.rxActive := rfl
@[simp] theorem storeTx_rxHeadC (wire : List Byte) (s : State) :
    (storeTx wire s).rxHeadC = s.rxHeadC := rfl
@[simp] theorem storeTx_rxHeadE (wire : List Byte) (s : State) :
    (storeTx wire s).rxHeadE = s.rxHeadE := rfl
@[simp] theorem storeTx_pktValid (wire : List Byte) (s : State) :
    (storeTx wire s).pktValid = s.pktValid := rfl
@[simp] theorem storeTx_pktCmd (wire : List Byte) (s : State) :
    (storeTx wire s).pktCmd = s.pktCmd := rfl
@[simp] theorem storeTx_pktLen (wire : List Byte) (s : State) :
    (storeTx wire s).pktLen = s.pktLen := rfl
@[simp] theorem storeTx_pktOrder (wire : List Byte) (s : State) :
    (storeTx wire s).pktOrder = s.pktOrder := rfl
@[simp] theorem storeTx_pktCrc (wire : List Byte) (s : State) :
    (storeTx wire s).pktCrc = s.pktCrc := rfl
@[simp] theorem storeTx_txBuf (wire : List Byte) (s : State) :
    (storeTx wire s).txBuf = s.txBuf.writeBytes 0 wire := rfl
@[simp] theorem storeTx_txLen (wire : List Byte) (s : State) :
    (storeTx wire s).txLen = wire.length := rfl
@[simp] theorem storeTx_stk (wire : List Byte) (s : State) :
    (storeTx wire s).stk = s.stk := rfl
@[simp] theorem storeTx_sp (wire : List Byte) (s : State) :
    (storeTx wire s).sp = s.sp := rfl
@[simp] theorem storeTx_errRxOvf (wire : List Byte) (s : State) :
    (storeTx wire s).errRxOvf = s.errRxOvf := rfl
@[simp] theorem storeTx_errEvFull (wire : List Byte) (s : State) :
    (storeTx wire s).errEvFull = s.errEvFull := rfl
@[simp] theorem storeTx_result (wire : List Byte) (s : State) :
    (storeTx wire s).result = s.result := rfl
@[simp] theorem storeTx_pending (wire : List Byte) (s : State) :
    (storeTx wire s).pending = s.pending := rfl

/-! ### stackGrow -/

@[simp] theorem stackGrow_params (code : EventCode) (s : State) :
    (stackGrow code s).params = s.params := rfl
@[simp] theorem stackGrow_rxBuf (code : EventCode) (s : State) :
    (stackGrow code s).rxBuf = s.rxBuf := rfl
@[simp] theorem stackGrow_rxLen (code : EventCode) (s : State) :
    (stackGrow code s).rxLen = s.rxLen := rfl
@[simp] theorem stackGrow_rxMask (code : EventCode) (s : State) :
    (stackGrow code s).rxMask = s.rxMask := rfl
@[simp] theorem stackGrow_rxActive (code : EventCode) (s : State) :
    (stackGrow code s).rxActive = s.rxActive := rfl
@[simp] theorem stackGrow_rxHeadC (code : EventCode) (s : State) :
    (stackGrow code s).rxHeadC = s.rxHeadC := rfl
@[simp] theorem stackGrow_rxHeadE (code : EventCode) (s : State) :
    (stackGrow code s).rxHeadE = s.rxHeadE := rfl
@[simp] theorem stackGrow_pktValid (code : EventCode) (s : State) :
    (stackGrow code s).pktValid = s.pktValid := rfl
@[simp] theorem stackGrow_pktCmd (code : EventCode) (s : State) :
    (stackGrow code s).pktCmd = s.pktCmd := rfl
@[simp] theorem stackGrow_pktLen (code : EventCode) (s : State) :
    (stackGrow code s).pktLen = s.pktLen := rfl
@[simp] theorem stackGrow_pktOrder (code : EventCode) (s : State) :
    (stackGrow code s).pktOrder = s.pktOrder := rfl
@[simp] theorem stackGrow_pktCrc (code : EventCode) (s : State) :
    (stackGrow code s).pktCrc = s.pktCrc := rfl
@[simp] theorem stackGrow_txBuf (code : EventCode) (s : State) :
    (stackGrow code s).txBuf = s.txBuf := rfl
@[simp] theorem stackGrow_txLen (code : EventCode) (s : State) :
    (stackGrow code s).txLen = s.txLen := rfl
@[simp] theorem stackGrow_stk (code : EventCode) (s : State) :
    (stackGrow code s).stk = s.stk.write (s.sp + 1) code := rfl
@[simp] theorem stackGrow_sp (code : EventCode) (s : State) :
    (stackGrow code s).sp = s.sp + 1 := rfl
@[simp] theorem stackGrow_errRxOvf (code : EventCode) (s : State) :
    (stackGrow code s).errRxOvf = s.errRxOvf := rfl
@[simp] theorem stackGrow_errEvFull (code : EventCode) (s : State) :
    (stackGrow code s).errEvFull = s.errEvFull := rfl
@[simp] theorem stackGrow_result (code : EventCode) (s : State) :
    (stackGrow code s).result = s.result := rfl
@[simp] theorem stackGrow_pending (code : EventCode) (s : State) :
    (stackGrow code s).pending = s.pending := rfl

/-! ### stackShrink -/

@[simp] theorem stackShrink_params (s : State) :
    (stackShrink s).params = s.params := rfl
@[simp] theorem stackShrink_rxBuf (s : State) :
    (stackShrink s).rxBuf = s.rxBuf := rfl
@[simp] theorem stackShrink_rxLen (s : State) :
    (stackShrink s).rxLen = s.rxLen := rfl
@[simp] theorem stackShrink_rxMask (s : State) :
    (stackShrink s).rxMask = s.rxMask := rfl
@[simp] theorem stackShrink_rxActive (s : State) :
    (stackShrink s).rxActive = s.rxActive := rfl
@[simp] theorem stackShrink_rxHeadC (s : State) :
    (stackShrink s).rxHeadC = s.rxHeadC := rfl
@[simp] theorem stackShrink_rxHeadE (s : State) :
    (stackShrink s).rxHeadE = s.rxHeadE := rfl
@[simp] theorem stackShrink_pktValid (s : State) :
    (stackShrink s).pktValid = s.pktValid := rfl
@[simp] theorem stackShrink_pktCmd (s : State) :
    (stackShrink s).pktCmd = s.pktCmd := rfl
@[simp] theorem stackShrink_pktLen (s : State) :
    (stackShrink s).pktLen = s.pktLen := rfl
@[simp] theorem stackShrink_pktOrder (s : State) :
    (stackShrink s).pktOrder = s.pktOrder := rfl
@[simp] theorem stackShrink_pktCrc (s : State) :
    (stackShrink s).pktCrc = s.pktCrc := rfl
@[simp] theorem stackShrink_txBuf (s : State) :
    (stackShrink s).txBuf = s.txBuf := rfl
@[simp] theorem stackShrink_txLen (s : State) :
    (stackShrink s).txLen = s.txLen := rfl
@[simp] theorem stackShrink_stk (s : State) :
    (stackShrink s).stk = s.stk := rfl
@[simp] theorem stackShrink_sp (s : State) :
    (stackShrink s).sp = s.sp - 1 := rfl
@[simp] theorem stackShrink_errRxOvf (s : State) :
    (stackShrink s).errRxOvf = s.errRxOvf := rfl
@[simp] theorem stackShrink_errEvFull (s : State) :
    (stackShrink s).errEvFull = s.errEvFull := rfl
@[simp] theorem stackShrink_result (s : State) :
    (stackShrink s).result = s.result := rfl
@[simp] theorem stackShrink_pending (s : State) :
    (stackShrink s).pending = s.pending := rfl

/-! ### setRxOverflow -/

@[simp] theorem setRxOverflow_params (s : State) :
    (setRxOverflow s).params = s.params := rfl
@[simp] theorem setRxOverflow_rxBuf (s : State) :
    (setRxOverflow s).rxBuf = s.rxBuf := rfl
@[simp] theorem setRxOverflow_rxLen (s : State) :
    (setRxOverflow s).rxLen = s.rxLen := rfl
@[simp] theorem setRxOverflow_rxMask (s : State) :
    (setRxOverflow s).rxMask = s.rxMask := rfl
@[simp] theorem setRxOverflow_rxActive (s : State) :
    (setRxOverflow s).rxActive = s.rxActive := rfl
@[simp] theorem setRxOverflow_rxHeadC (s : State) :
    (setRxOverflow s).rxHeadC = s.rxHeadC := rfl
@[simp] theorem setRxOverflow_rxHeadE (s : State) :
    (setRxOverflow s).rxHeadE = s.rxHeadE := rfl
@[simp] theorem setRxOverflow_pktValid (s : State) :
    (setRxOverflow s).pktValid = s.pktValid := rfl
@[simp] theorem setRxOverflow_pktCmd (s : State) :
    (setRxOverflow s).pktCmd = s.pktCmd := rfl
@[simp] theorem setRxOverflow_pktLen (s : State) :
    (setRxOverflow s).pktLen = s.pktLen := rfl
@[simp] theorem setRxOverflow_pktOrder (s : State) :
    (setRxOverflow s).pktOrder = s.pktOrder := rfl
@[simp] theorem setRxOverflow_pktCrc (s : State) :
    (setRxOverflow s).pktCrc = s.pktCrc := rfl
@[simp] theorem setRxOverflow_txBuf (s : State) :
    (setRxOverflow s).txBuf = s.txBuf := rfl
@[simp] theorem setRxOverflow_txLen (s : State) :
    (setRxOverflow s).txLen = s.txLen := rfl
@[simp] theorem setRxOverflow_stk (s : State) :
    (setRxOverflow s).stk = s.stk := rfl
@[simp] theorem setRxOverflow_sp (s : State) :
    (setRxOverflow s).sp = s.sp := rfl
@[simp] theorem setRxOverflow_errRxOvf (s : State) :
    (setRxOverflow s).errRxOvf = true := rfl
@[simp] theorem setRxOverflow_errEvFull (s : State) :
    (setRxOverflow s).errEvFull = s.errEvFull := rfl
@[simp] theorem setRxOverflow_result (s : State) :
    (setRxOverflow s).result = s.result := rfl
@[simp] theorem setRxOverflow_pending (s : State) :
    (setRxOverflow s).pending = s.pending := rfl

/-! ### setEventFull -/

@[simp] theorem setEventFull_params (s : State) :
    (setEventFull s).params = s.params := rfl
@[simp] theorem setEventFull_rxBuf (s : State) :
    (setEventFull s).rxBuf = s.rxBuf := rfl
@[simp] theorem setEventFull_rxLen (s : State) :
    (setEventFull s).rxLen = s.rxLen := rfl
@[simp] theorem setEventFull_rxMask (s : State) :
    (setEventFull s).rxMask = s.rxMask := rfl
@[simp] theorem setEventFull_rxActive (s : State) :
    (setEventFull s).rxActive = s.rxActive := rfl
@[simp] theorem setEventFull_rxHeadC (s : State) :
    (setEventFull s).rxHeadC = s.rxHeadC := rfl
@[simp] theorem setEventFull_rxHeadE (s : State) :
    (setEventFull s).rxHeadE = s.rxHeadE := rfl
@[simp] theorem setEventFull_pktValid (s : State) :
    (setEventFull s).pktValid = s.pktValid := rfl
@[simp] theorem setEventFull_pktCmd (s : State) :
    (setEventFull s).pktCmd = s.pktCmd := rfl
@[simp] theorem setEventFull_pktLen (s : State) :
    (setEventFull s).pktLen = s.pktLen := rfl
@[simp] theorem setEventFull_pktOrder (s : State) :
    (setEventFull s).pktOrder = s.pktOrder := rfl
@[simp] theorem setEventFull_pktCrc (s : State) :
    (setEventFull s).pktCrc = s.pktCrc := rfl
@[simp] theorem setEventFull_txBuf (s : State) :
    (setEventFull s).txBuf = s.txBuf := rfl
@[simp] theorem setEventFull_txLen (s : State) :
    (setEventFull s).txLen = s.txLen := rfl
@[simp] theorem setEventFull_stk (s : State) :
    (setEventFull s).stk = s.stk := rfl
@[simp] theorem setEventFull_sp (s : State) :
    (setEventFull s).sp = s.sp := rfl
@[simp] theorem setEventFull_errRxOvf (s : State) :
    (setEventFull s).errRxOvf = s.errRxOvf := rfl
@[simp] theorem setEventFull_errEvFull (s : State) :
    (setEventFull s).errEvFull = true := rfl
@[simp] theorem setEventFull_result (s : State) :
    (setEventFull s).result = s.result := rfl
@[simp] theorem setEventFull_pending (s : State) :
    (setEventFull s).pending = s.pending := rfl

/-! ### clearErrors -/

@[simp] theorem clearErrors_params (s : State) :
    (clearErrors s).params = s.params := rfl
@[simp] theorem clearErrors_rxBuf (s : State) :
    (clearErrors s).rxBuf = s.rxBuf := rfl
@[simp] theorem clearErrors_rxLen (s : State) :
    (clearErrors s).rxLen = s.rxLen := rfl
@[simp] theorem clearErrors_rxMask (s : State) :
    (clearErrors s).rxMask = s.rxMask := rfl
@[simp] theorem clearErrors_rxActive (s : State) :
    (clearErrors s).rxActive = s.rxActive := rfl
@[simp] theorem clearErrors_rxHeadC (s : State) :
    (clearErrors s).rxHeadC = s.rxHeadC := rfl
@[simp] theorem clearErrors_rxHeadE (s : State) :
    (clearErrors s).rxHeadE = s.rxHeadE := rfl
@[simp] theorem clearErrors_pktValid (s : State) :
    (clearErrors s).pktValid = s.pktValid := rfl
@[simp] theorem clearErrors_pktCmd (s : State) :
    (clearErrors s).pktCmd = s.pktCmd := rfl
@[simp] theorem clearErrors_pktLen (s : State) :
    (clearErrors s).pktLen = s.pktLen := rfl
@[simp] theorem clearErrors_pktOrder (s : State) :
    (clearErrors s).pktOrder = s.pktOrder := rfl
@[simp] theorem clearErrors_pktCrc (s : State) :
    (clearErrors s).pktCrc = s.pktCrc := rfl
@[simp] theorem clearErrors_txBuf (s : State) :
    (clearErrors s).txBuf = s.txBuf := rfl
@[simp] theorem clearErrors_txLen (s : State) :
    (clearErrors s).txLen = s.txLen := rfl
@[simp] theorem clearErrors_stk (s : State) :
    (clearErrors s).stk = s.stk := rfl
@[simp] theorem clearErrors_sp (s : State) :
    (clearErrors s).sp = s.sp := rfl
@[simp] theorem clearErrors_errRxOvf (s : State) :
    (clearErrors s).errRxOvf = false := rfl
@[simp] theorem clearErrors_errEvFull (s : State) :
    (clearErrors s).errEvFull = false := rfl
@[simp] theorem clearErrors_result (s : State) :
    (clearErrors s).result = s.result := rfl
@[simp] theorem clearErrors_pending (s : State) :
    (clearErrors s).pending = s.pending := rfl

/-! ### setPending -/

@[simp] theorem setPending_params (l : List Request) (s : State) :
    (setPending l s).params = s.params := rfl
@[simp] theorem setPending_rxBuf (l : List Request) (s : State) :
    (setPending l s).rxBuf = s.rxBuf := rfl
@[simp] theorem setPending_rxLen (l : List Request) (s : State) :
    (setPending l s).rxLen = s.rxLen := rfl
@[simp] theorem setPending_rxMask (l : List Request) (s : State) :
    (setPending l s).rxMask = s.rxMask := rfl
@[simp] theorem setPending_rxActive (l : List Request) (s : State) :
    (setPending l s).rxActive = s.rxActive := rfl
@[simp] theorem setPending_rxHeadC (l : List Request) (s : State) :
    (setPending l s).rxHeadC = s.rxHeadC := rfl
@[simp] theorem setPending_rxHeadE (l : List Request) (s : State) :
    (setPending l s).rxHeadE = s.rxHeadE := rfl
@[simp] theorem setPending_pktValid (l : List Request) (s : State) :
    (setPending l s).pktValid = s.pktValid := rfl
@[simp] theorem setPending_pktCmd (l : List Request) (s : State) :
    (setPending l s).pktCmd = s.pktCmd := rfl
@[simp] theorem setPending_pktLen (l : List Request) (s : State) :
    (setPending l s).pktLen = s.pktLen := rfl
@[simp] theorem setPending_pktOrder (l : List Request) (s : State) :
    (setPending l s).pktOrder = s.pktOrder := rfl
@[simp] theorem setPending_pktCrc (l : List Request) (s : State) :
    (setPending l s).pktCrc = s.pktCrc := rfl
@[simp] theorem setPending_txBuf (l : List Request) (s : State) :
    (setPending l s).txBuf = s.txBuf := rfl
@[simp] theorem setPending_txLen (l : List Request) (s : State) :
    (setPending l s).txLen = s.txLen := rfl
@[simp] theorem setPending_stk (l : List Request) (s : State) :
    (setPending l s).stk = s.stk := rfl
@[simp] theorem setPending_sp (l : List Request) (s : State) :
    (setPending l s).sp = s.sp := rfl
@[simp] theorem setPending_errRxOvf (l : List Request) (s : State) :
    (setPending l s).errRxOvf = s.errRxOvf := rfl
@[simp] theorem setPending_errEvFull (l : List Request) (s : State) :
    (setPending l s).errEvFull = s.errEvFull := rfl
@[simp] theorem setPending_result (l : List Request) (s : State) :
    (setPending l s).result = s.result := rfl
@[simp] theorem setPending_pending (l : List Request) (s : State) :
    (setPending l s).pending = l := rfl

end Sys2Proof.Machine
end

