-- ==== Sys2Proof/Laws/Memory.lean ====
section
/-! SUPPORT. The laws of the arrays: a read after a write, the canonical form, and the bound on the
indices listed. -/

namespace Sys2Proof.Machine

section Cells
variable {α : Type}

/-! ### Reads -/

theorem readCell_filter_same (d : α) (m : List (Nat × α)) (i : Nat) :
    readCell d (m.filter fun x => x.1 ≠ i) i = d := by
  induction m with
  | nil => rfl
  | cons x m ih =>
    by_cases h : x.1 = i
    · simpa [List.filter_cons, h] using ih
    · simpa [List.filter_cons, h, readCell] using ih

theorem readCell_filter_other (d : α) (m : List (Nat × α)) {i j : Nat} (hij : j ≠ i) :
    readCell d (m.filter fun x => x.1 ≠ i) j = readCell d m j := by
  induction m with
  | nil => rfl
  | cons x m ih =>
    by_cases h : x.1 = i
    · have hj : x.1 ≠ j := fun e => hij (e.symm.trans h)
      simpa [List.filter_cons, h, readCell, Ne.symm hij] using ih
    · simp only [List.filter_cons, h, ne_eq, not_false_iff, decide_true, if_true, readCell]
      split
      · rfl
      · simpa using ih

theorem readCell_insert_other (d : α) (c : Nat × α) (m : List (Nat × α)) {j : Nat} (h : c.1 ≠ j) :
    readCell d (insertCell c m) j = readCell d m j := by
  induction m with
  | nil => simp [insertCell, readCell, h]
  | cons x m ih =>
    unfold insertCell
    split
    · simp [readCell, h]
    · simp [readCell, ih]

theorem readCell_insert_same (d : α) (c : Nat × α) (m : List (Nat × α))
    (h : ∀ x ∈ m, x.1 ≠ c.1) : readCell d (insertCell c m) c.1 = c.2 := by
  induction m with
  | nil => simp [insertCell, readCell]
  | cons x m ih =>
    unfold insertCell
    split
    · simp [readCell]
    · simpa [readCell, h x (by simp)] using ih fun y hy => h y (by simp [hy])

theorem mem_insertCell (c : Nat × α) (m : List (Nat × α)) (x : Nat × α) :
    x ∈ insertCell c m ↔ x = c ∨ x ∈ m := by
  induction m with
  | nil => simp [insertCell]
  | cons y m ih =>
    unfold insertCell
    split
    · simp
    · simp [ih, or_left_comm]

theorem CellsBelow.mono {cap : Nat} {m m' : List (Nat × α)} (h : CellsBelow cap m)
    (hsub : ∀ x ∈ m', x ∈ m) : CellsBelow cap m' := fun x hx => h x (hsub x hx)

variable [DecidableEq α]

theorem readCell_write_same (d : α) (m : List (Nat × α)) (i : Nat) (v : α) :
    readCell d (writeCell d m i v) i = v := by
  unfold writeCell
  split
  · next h => rw [readCell_filter_same, h]
  · exact readCell_insert_same d (i, v) _ fun x hx => by simpa using (List.mem_filter.mp hx).2

theorem readCell_write_other (d : α) (m : List (Nat × α)) {i j : Nat} (v : α) (h : j ≠ i) :
    readCell d (writeCell d m i v) j = readCell d m j := by
  unfold writeCell
  split
  · exact readCell_filter_other d m h
  · rw [readCell_insert_other d (i, v) _ (Ne.symm h), readCell_filter_other d m h]

/-! ### The canonical form -/

theorem cellsWf_cons (d : α) (x : Nat × α) (m : List (Nat × α)) :
    cellsWf d (x :: m) = true ↔ x.2 ≠ d ∧ (∀ y ∈ m, x.1 < y.1) ∧ cellsWf d m = true := by
  simp [cellsWf, and_assoc]

theorem cellsWf_filter (d : α) (q : Nat × α → Bool) {m : List (Nat × α)} (h : cellsWf d m = true) :
    cellsWf d (m.filter q) = true := by
  induction m with
  | nil => rfl
  | cons x m ih =>
    obtain ⟨hx, hlt, hm⟩ := (cellsWf_cons d x m).mp h
    by_cases hq : q x = true
    · rw [List.filter_cons_of_pos hq]
      exact (cellsWf_cons d x _).mpr ⟨hx, fun y hy => hlt y (List.mem_filter.mp hy).1, ih hm⟩
    · rw [List.filter_cons_of_neg hq]
      exact ih hm

theorem cellsWf_insert (d : α) (c : Nat × α) {m : List (Nat × α)} (h : cellsWf d m = true)
    (hd : c.2 ≠ d) (hne : ∀ x ∈ m, x.1 ≠ c.1) : cellsWf d (insertCell c m) = true := by
  induction m with
  | nil => simp [insertCell, cellsWf, hd]
  | cons x m ih =>
    obtain ⟨hx, hlt, hm⟩ := (cellsWf_cons d x m).mp h
    unfold insertCell
    split
    · next hc =>
      refine (cellsWf_cons d c _).mpr ⟨hd, ?_, h⟩
      intro y hy
      rcases List.mem_cons.mp hy with rfl | hy
      · exact hc
      · exact lt_trans hc (hlt y hy)
    · next hc =>
      refine (cellsWf_cons d x _).mpr ⟨hx, ?_, ih hm fun y hy => hne y (by simp [hy])⟩
      intro y hy
      rcases (mem_insertCell c m y).mp hy with rfl | hy
      · have := hne x (by simp); omega
      · exact hlt y hy

theorem cellsWf_write (d : α) {m : List (Nat × α)} (h : cellsWf d m = true) (i : Nat) (v : α) :
    cellsWf d (writeCell d m i v) = true := by
  unfold writeCell
  split
  · exact cellsWf_filter d _ h
  · next hv =>
    exact cellsWf_insert d (i, v) (cellsWf_filter d _ h) hv fun x hx => by
      simpa using (List.mem_filter.mp hx).2

/-! ### The indices listed -/

theorem cellsBelow_write (d : α) {cap : Nat} {m : List (Nat × α)} (h : CellsBelow cap m) {i : Nat}
    (hi : i < cap) (v : α) : CellsBelow cap (writeCell d m i v) := by
  have hf : CellsBelow cap (m.filter fun x => x.1 ≠ i) :=
    h.mono fun x hx => (List.mem_filter.mp hx).1
  unfold writeCell
  split
  · exact hf
  · intro x hx
    rcases (mem_insertCell _ _ x).mp hx with rfl | hx
    · exact hi
    · exact hf x hx

end Cells

/-! ### Byte arrays -/

@[simp] theorem Memory.read_write_same (m : Memory) (i : Nat) (v : Byte) :
    (m.write i v).read i = v := readCell_write_same _ m i v

theorem Memory.read_write_other (m : Memory) {i j : Nat} (v : Byte) (h : j ≠ i) :
    (m.write i v).read j = m.read j := readCell_write_other _ m v h

theorem Memory.write_wf {m : Memory} (h : m.wf = true) (i : Nat) (v : Byte) :
    (m.write i v).wf = true := cellsWf_write _ h i v

theorem Memory.writeBytes_wf (vs : List Byte) :
    ∀ {m : Memory} (_ : m.wf = true) (i : Nat), (m.writeBytes i vs).wf = true := by
  induction vs with
  | nil => intro m h _; exact h
  | cons v vs ih => intro m h i; exact ih (Memory.write_wf h i v) (i + 1)

theorem Memory.writeBytes_below {cap : Nat} (vs : List Byte) :
    ∀ {m : Memory} (_ : CellsBelow cap m) (i : Nat) (_ : i + vs.length ≤ cap),
      CellsBelow cap (m.writeBytes i vs) := by
  induction vs with
  | nil => intro m h _ _; exact h
  | cons v vs ih =>
    intro m h i hi
    simp only [List.length_cons] at hi
    exact ih (cellsBelow_write _ h (by omega) v) (i + 1) (by omega)

/-- A read below or above the bytes stored. -/
theorem Memory.read_writeBytes_outside (vs : List Byte) :
    ∀ (m : Memory) (i j : Nat) (_ : j < i ∨ i + vs.length ≤ j),
      (m.writeBytes i vs).read j = m.read j := by
  induction vs with
  | nil => intro m i j _; rfl
  | cons v vs ih =>
    intro m i j h
    simp only [List.length_cons] at h
    exact (ih (m.write i v) (i + 1) j (by omega)).trans
      (m.read_write_other v (by omega))

/-- What is read back is what was stored. -/
theorem Memory.readBytes_writeBytes (vs : List Byte) :
    ∀ (m : Memory) (i : Nat), (m.writeBytes i vs).readBytes i vs.length = vs := by
  induction vs with
  | nil => intro m i; rfl
  | cons v vs ih =>
    intro m i
    change (Memory.writeBytes _ (i + 1) vs).read i :: _ = _
    rw [Memory.read_writeBytes_outside vs _ _ _ (.inl (by omega)), Memory.read_write_same]
    exact congrArg (v :: ·) (ih (m.write i v) (i + 1))

@[simp] theorem Memory.length_readBytes (m : Memory) (n : Nat) :
    ∀ i, (m.readBytes i n).length = n := by
  induction n with
  | zero => intro i; rfl
  | succ n ih => intro i; simp [Memory.readBytes, ih]

theorem Memory.getElem?_readBytes (m : Memory) (n : Nat) :
    ∀ (i k : Nat) (_ : k < n), (m.readBytes i n)[k]? = some (m.read (i + k)) := by
  induction n with
  | zero => intro i k h; omega
  | succ n ih =>
    intro i k h
    cases k with
    | zero => rfl
    | succ k =>
      have := ih (i + 1) k (by omega)
      simpa [Memory.readBytes, Nat.add_assoc, Nat.add_comm 1 k] using this

/-- Bytes read depend on the elements in range alone. -/
theorem Memory.readBytes_congr {m m' : Memory} (n : Nat) :
    ∀ (i : Nat) (_ : ∀ k, k < n → m.read (i + k) = m'.read (i + k)),
      m.readBytes i n = m'.readBytes i n := by
  induction n with
  | zero => intro i _; rfl
  | succ n ih =>
    intro i h
    refine congrArg₂ (· :: ·) (h 0 (by omega)) (ih (i + 1) fun k hk => ?_)
    have := h (k + 1) (by omega)
    simpa [Nat.add_assoc, Nat.add_comm 1 k] using this

/-! ### Stack slots -/

@[simp] theorem Slots.read_write_same (m : Slots) (i : Nat) (e : EventCode) :
    (m.write i e).read i = e := readCell_write_same _ m i e

theorem Slots.read_write_other (m : Slots) {i j : Nat} (e : EventCode) (h : j ≠ i) :
    (m.write i e).read j = m.read j := readCell_write_other _ m e h

theorem Slots.write_wf {m : Slots} (h : m.wf = true) (i : Nat) (e : EventCode) :
    (m.write i e).wf = true := cellsWf_write _ h i e

end Sys2Proof.Machine
end

