-- ==== Sys2Proof/Laws/Stuffing.lean ====
section
/-! SUPPORT. The scan of `stuff` without its bound (41 R77), and the same for the window count. -/

namespace Sys2Proof.Machine

theorem stuffWithin_eq :
    ∀ {n m : Nat} {r : List Byte} (_ : r.length ≤ n) (_ : r.length ≤ m),
      stuffWithin n r = stuffWithin m r := by
  intro n
  induction n with
  | zero =>
    intro m r h _
    rw [List.length_eq_zero_iff.mp (Nat.le_zero.mp h)]
    cases m <;> rfl
  | succ n ih =>
    intro m r hn hm
    cases r with
    | nil => cases m <;> rfl
    | cons d r =>
      cases m with
      | zero => simp at hm
      | succ m =>
        simp only [List.length_cons] at hn hm
        have hd : ((d :: r).drop nEsc).length ≤ r.length := by simp [nEsc]
        unfold stuffWithin
        rw [ih (r := r) (m := m) (by omega) (by omega),
          ih (r := (d :: r).drop nEsc) (m := m) (by omega) (by omega)]

theorem escWithin_eq :
    ∀ {n m : Nat} {r : List Byte} (_ : r.length ≤ n) (_ : r.length ≤ m),
      escWithin n r = escWithin m r := by
  intro n
  induction n with
  | zero =>
    intro m r h _
    rw [List.length_eq_zero_iff.mp (Nat.le_zero.mp h)]
    cases m <;> rfl
  | succ n ih =>
    intro m r hn hm
    cases r with
    | nil => cases m <;> rfl
    | cons d r =>
      cases m with
      | zero => simp at hm
      | succ m =>
        simp only [List.length_cons] at hn hm
        have hd : ((d :: r).drop nEsc).length ≤ r.length := by simp [nEsc]
        unfold escWithin
        rw [ih (r := r) (m := m) (by omega) (by omega),
          ih (r := (d :: r).drop nEsc) (m := m) (by omega) (by omega)]

@[simp] theorem stuff_nil : stuff [] = [] := rfl

/-- A non-colliding byte outside any window is copied. -/
theorem stuff_cons_plain {d : Byte} (r : List Byte) (h : collides d = false) :
    stuff (d :: r) = d :: stuff r := by
  simp [stuff, stuffWithin, h]

/-- A colliding byte outside any window opens one over the next four bytes at most. -/
theorem stuff_cons_window {d : Byte} (r : List Byte) (h : collides d = true) :
    stuff (d :: r) =
      escapeByte (windowMask (d :: r.take 3)) :: (d :: r.take 3).map emitByte
        ++ stuff (r.drop 3) := by
  have hlen : (r.drop 3).length ≤ r.length := by simp
  simp only [stuff, List.length_cons, stuffWithin, h, if_true, nEsc, List.take_succ_cons,
    List.drop_succ_cons]
  rw [stuffWithin_eq hlen (Nat.le_refl _)]

@[simp] theorem esc_nil : esc [] = 0 := rfl

theorem esc_cons_plain {d : Byte} (r : List Byte) (h : collides d = false) :
    esc (d :: r) = esc r := by
  simp [esc, escWithin, h]

theorem esc_cons_window {d : Byte} (r : List Byte) (h : collides d = true) :
    esc (d :: r) = 1 + esc (r.drop 3) := by
  have hlen : (r.drop 3).length ≤ r.length := by simp
  simp only [esc, List.length_cons, escWithin, h, if_true, nEsc, List.drop_succ_cons]
  rw [escWithin_eq hlen (Nat.le_refl _)]

/-- Induction along the scan: a byte copied, or a window of four bytes at most. -/
theorem scan_induction {P : List Byte → Prop} (nil : P [])
    (plain : ∀ d r, collides d = false → P r → P (d :: r))
    (window : ∀ d r, collides d = true → P (r.drop 3) → P (d :: r)) : ∀ r, P r := by
  have go : ∀ n (r : List Byte), r.length ≤ n → P r := by
    intro n
    induction n with
    | zero => intro r h; rw [List.length_eq_zero_iff.mp (Nat.le_zero.mp h)]; exact nil
    | succ n ih =>
      intro r h
      cases r with
      | nil => exact nil
      | cons d r =>
        simp only [List.length_cons] at h
        cases hd : collides d with
        | false => exact plain d r hd (ih r (by omega))
        | true => exact window d r hd (ih _ (by simp; omega))
  exact fun r => go r.length r (Nat.le_refl _)

@[simp] theorem windowMask_nil : windowMask [] = 0 := rfl

end Sys2Proof.Machine
end

