-- ==== Sys2Proof/Laws/Ops.lean ====
section
/-! SUPPORT. One spec lemma per shared operation: everything it can do, said once. -/

namespace Sys2Proof.Machine

/-! ### The event stack -/

/-- A push answers full, or duplicate, or stores; these are its only effects (43 R105). -/
theorem pushEvent_spec (code : EventCode) (s : State) :
    (s.params.evCap - 1 ≤ s.sp ∧ pushResult code s = .full ∧ pushEvent code s = setEventFull s) ∨
    (s.sp < s.params.evCap - 1 ∧ s.stk.read s.sp = code ∧ pushResult code s = .dup ∧
      pushEvent code s = s) ∨
    (s.sp < s.params.evCap - 1 ∧ s.stk.read s.sp ≠ code ∧ pushResult code s = .stored ∧
      pushEvent code s = stackGrow code s) := by
  unfold pushEvent pushResult
  by_cases hroom : s.sp < s.params.evCap - 1
  · by_cases hdup : s.stk.read s.sp = code
    · exact .inr (.inl ⟨hroom, hdup, by simp [hroom, hdup], by simp [hroom, hdup]⟩)
    · exact .inr (.inr ⟨hroom, hdup, by simp [hroom, hdup], by simp [hroom, hdup]⟩)
  · exact .inl ⟨by omega, by simp [hroom], by simp [hroom]⟩

/-- A pop answers Idle and changes nothing, or answers the top and moves `sp` (43 R106). -/
theorem popEvent_spec (s : State) :
    (s.sp = 0 ∧ popResult s = idle ∧ popEvent s = s) ∨
    (s.sp ≠ 0 ∧ popResult s = s.stk.read s.sp ∧ popEvent s = stackShrink s) := by
  unfold popResult popEvent
  by_cases h : s.sp = 0
  · exact .inl ⟨h, by simp [h], by simp [h]⟩
  · exact .inr ⟨h, by simp [h], by simp [h]⟩

/-! A push touches nothing but `stk`, `sp` and `err_ev_full`, a pop nothing but `sp`. -/

@[simp] theorem pushEvent_params (code : EventCode) (s : State) :
    (pushEvent code s).params = s.params := by
  unfold pushEvent; split <;> rfl
@[simp] theorem pushEvent_rxBuf (code : EventCode) (s : State) :
    (pushEvent code s).rxBuf = s.rxBuf := by
  unfold pushEvent; split <;> rfl
@[simp] theorem pushEvent_rxLen (code : EventCode) (s : State) :
    (pushEvent code s).rxLen = s.rxLen := by
  unfold pushEvent; split <;> rfl
@[simp] theorem pushEvent_rxMask (code : EventCode) (s : State) :
    (pushEvent code s).rxMask = s.rxMask := by
  unfold pushEvent; split <;> rfl
@[simp] theorem pushEvent_rxActive (code : EventCode) (s : State) :
    (pushEvent code s).rxActive = s.rxActive := by
  unfold pushEvent; split <;> rfl
@[simp] theorem pushEvent_rxHeadC (code : EventCode) (s : State) :
    (pushEvent code s).rxHeadC = s.rxHeadC := by
  unfold pushEvent; split <;> rfl
@[simp] theorem pushEvent_rxHeadE (code : EventCode) (s : State) :
    (pushEvent code s).rxHeadE = s.rxHeadE := by
  unfold pushEvent; split <;> rfl
@[simp] theorem pushEvent_pktValid (code : EventCode) (s : State) :
    (pushEvent code s).pktValid = s.pktValid := by
  unfold pushEvent; split <;> rfl
@[simp] theorem pushEvent_pktCmd (code : EventCode) (s : State) :
    (pushEvent code s).pktCmd = s.pktCmd := by
  unfold pushEvent; split <;> rfl
@[simp] theorem pushEvent_pktLen (code : EventCode) (s : State) :
    (pushEvent code s).pktLen = s.pktLen := by
  unfold pushEvent; split <;> rfl
@[simp] theorem pushEvent_pktOrder (code : EventCode) (s : State) :
    (pushEvent code s).pktOrder = s.pktOrder := by
  unfold pushEvent; split <;> rfl
@[simp] theorem pushEvent_pktCrc (code : EventCode) (s : State) :
    (pushEvent code s).pktCrc = s.pktCrc := by
  unfold pushEvent; split <;> rfl
@[simp] theorem pushEvent_txBuf (code : EventCode) (s : State) :
    (pushEvent code s).txBuf = s.txBuf := by
  unfold pushEvent; split <;> rfl
@[simp] theorem pushEvent_txLen (code : EventCode) (s : State) :
    (pushEvent code s).txLen = s.txLen := by
  unfold pushEvent; split <;> rfl
@[simp] theorem pushEvent_errRxOvf (code : EventCode) (s : State) :
    (pushEvent code s).errRxOvf = s.errRxOvf := by
  unfold pushEvent; split <;> rfl
@[simp] theorem pushEvent_result (code : EventCode) (s : State) :
    (pushEvent code s).result = s.result := by
  unfold pushEvent; split <;> rfl
@[simp] theorem pushEvent_pending (code : EventCode) (s : State) :
    (pushEvent code s).pending = s.pending := by
  unfold pushEvent; split <;> rfl
@[simp] theorem popEvent_params (s : State) : (popEvent s).params = s.params := by
  unfold popEvent; split <;> rfl
@[simp] theorem popEvent_rxBuf (s : State) : (popEvent s).rxBuf = s.rxBuf := by
  unfold popEvent; split <;> rfl
@[simp] theorem popEvent_rxLen (s : State) : (popEvent s).rxLen = s.rxLen := by
  unfold popEvent; split <;> rfl
@[simp] theorem popEvent_rxMask (s : State) : (popEvent s).rxMask = s.rxMask := by
  unfold popEvent; split <;> rfl
@[simp] theorem popEvent_rxActive (s : State) : (popEvent s).rxActive = s.rxActive := by
  unfold popEvent; split <;> rfl
@[simp] theorem popEvent_rxHeadC (s : State) : (popEvent s).rxHeadC = s.rxHeadC := by
  unfold popEvent; split <;> rfl
@[simp] theorem popEvent_rxHeadE (s : State) : (popEvent s).rxHeadE = s.rxHeadE := by
  unfold popEvent; split <;> rfl
@[simp] theorem popEvent_pktValid (s : State) : (popEvent s).pktValid = s.pktValid := by
  unfold popEvent; split <;> rfl
@[simp] theorem popEvent_pktCmd (s : State) : (popEvent s).pktCmd = s.pktCmd := by
  unfold popEvent; split <;> rfl
@[simp] theorem popEvent_pktLen (s : State) : (popEvent s).pktLen = s.pktLen := by
  unfold popEvent; split <;> rfl
@[simp] theorem popEvent_pktOrder (s : State) : (popEvent s).pktOrder = s.pktOrder := by
  unfold popEvent; split <;> rfl
@[simp] theorem popEvent_pktCrc (s : State) : (popEvent s).pktCrc = s.pktCrc := by
  unfold popEvent; split <;> rfl
@[simp] theorem popEvent_txBuf (s : State) : (popEvent s).txBuf = s.txBuf := by
  unfold popEvent; split <;> rfl
@[simp] theorem popEvent_txLen (s : State) : (popEvent s).txLen = s.txLen := by
  unfold popEvent; split <;> rfl
@[simp] theorem popEvent_errRxOvf (s : State) : (popEvent s).errRxOvf = s.errRxOvf := by
  unfold popEvent; split <;> rfl
@[simp] theorem popEvent_result (s : State) : (popEvent s).result = s.result := by
  unfold popEvent; split <;> rfl
@[simp] theorem popEvent_pending (s : State) : (popEvent s).pending = s.pending := by
  unfold popEvent; split <;> rfl
@[simp] theorem popEvent_stk (s : State) : (popEvent s).stk = s.stk := by
  unfold popEvent; split <;> rfl
@[simp] theorem popEvent_errEvFull (s : State) : (popEvent s).errEvFull = s.errEvFull := by
  unfold popEvent; split <;> rfl

/-! ### The decoder -/

/-- What a data byte can do (42 R92, R93). -/
theorem receiveData_spec (b : Byte) (s : State) :
    (s.rxActive = false ∧ receiveData b s = s) ∨
    (s.rxActive = true ∧ s.rxLen < s.params.rxCap ∧
      receiveData b s = storeRx (restored b s) (setMask (s.rxMask >>> 1) s)) ∨
    (s.rxActive = true ∧ s.params.rxCap ≤ s.rxLen ∧
      receiveData b s = dropFrame (setRxOverflow s)) := by
  unfold receiveData
  cases hact : s.rxActive with
  | false => exact .inl ⟨rfl, by simp⟩
  | true =>
    by_cases h : s.rxLen < s.params.rxCap
    · exact .inr (.inl ⟨rfl, h, by simp [h]⟩)
    · exact .inr (.inr ⟨rfl, by omega, by simp [h]⟩)

/-- What a TAIL can do (42 R89, R94): nothing, accept, or end the frame. -/
theorem receiveTail_spec (c e : Bool) (s : State) :
    (s.rxActive = false ∧ receiveTail c e s = s) ∨
    (s.rxActive = true ∧ checkFrame c e s = .accept ∧
      receiveTail c e s = acceptFrame c e (closeFrame s)) ∨
    (s.rxActive = true ∧ checkFrame c e s ≠ .accept ∧ receiveTail c e s = closeFrame s) := by
  unfold receiveTail
  cases hact : s.rxActive with
  | false => exact .inl ⟨rfl, by simp⟩
  | true =>
    cases h : checkFrame c e s with
    | accept => exact .inr (.inl ⟨rfl, rfl, rfl⟩)
    | _ => exact .inr (.inr ⟨rfl, by simp, rfl⟩)

/-- When a TAIL's checks pass: all of 42 R94's conditions together. -/
theorem checkFrame_accept_iff (c e : Bool) (s : State) :
    checkFrame c e s = .accept ↔
      (c = s.rxHeadC ∧ e = s.rxHeadE) ∧ 2 ≤ s.rxLen ∧
      (rxLength s).toNat ≤ s.params.payloadCap ∧
      2 + (rxLength s).toNat + crcCount c ≤ s.params.rxCap ∧
      (s.params.strictLength = true → s.rxLen = 2 + (rxLength s).toNat + crcCount c) ∧
      (c = true → rxCrc s = s.rxBuf.read (2 + (rxLength s).toNat)) := by
  unfold checkFrame
  constructor
  · intro h
    split_ifs at h with h1 h2 h3 h4 h5 h6
    simp only [not_or, not_not, not_lt, not_and, ne_eq] at h1 h2 h3 h4 h5 h6
    exact ⟨h1, h2, h3, h4, h5, h6⟩
  · rintro ⟨⟨rfl, rfl⟩, h2, h3, h4, h5, h6⟩
    simp only [ne_eq, not_true_eq_false, or_self, if_false, not_lt.mpr h2, not_lt.mpr h3,
      not_lt.mpr h4]
    rw [if_neg (fun h => h.2 (h5 h.1)), if_neg (fun h => h.2 (h6 h.1))]

/-- What an ESCAPE can do (42 R90). -/
theorem receiveEscape_spec (m : Mask) (s : State) :
    (s.rxActive = false ∧ receiveEscape m s = s) ∨
    (s.rxActive = true ∧ receiveEscape m s = setMask m s) := by
  unfold receiveEscape
  cases s.rxActive
  · exact .inl ⟨rfl, rfl⟩
  · exact .inr ⟨rfl, rfl⟩

/-- What an unknown control byte can do (42 R91). -/
theorem receiveUnknown_spec (s : State) :
    (s.rxActive = false ∧ receiveUnknown s = s) ∨
    (s.rxActive = true ∧ receiveUnknown s = dropFrame s) := by
  unfold receiveUnknown
  cases s.rxActive
  · exact .inl ⟨rfl, rfl⟩
  · exact .inr ⟨rfl, rfl⟩

/-- RX_BYTE applies the rule of the byte's class (42 R85). -/
theorem receiveByte_spec (b : Byte) (s : State) :
    (∃ c e, classify b = .head c e ∧ receiveByte b s = receiveHead c e s) ∨
    (∃ c e, classify b = .tail c e ∧ receiveByte b s = receiveTail c e s) ∨
    (∃ m, classify b = .escape m ∧ receiveByte b s = receiveEscape m s) ∨
    (classify b = .unknown ∧ receiveByte b s = receiveUnknown s) ∨
    (classify b = .data ∧ receiveByte b s = receiveData b s) := by
  unfold receiveByte
  cases classify b with
  | head c e => exact .inl ⟨c, e, rfl, rfl⟩
  | tail c e => exact .inr (.inl ⟨c, e, rfl, rfl⟩)
  | escape m => exact .inr (.inr (.inl ⟨m, rfl, rfl⟩))
  | unknown => exact .inr (.inr (.inr (.inl ⟨rfl, rfl⟩)))
  | data => exact .inr (.inr (.inr (.inr ⟨rfl, rfl⟩)))

/-! ### The encoder -/

/-- ENCODE stores the whole frame or nothing (41 R75, R81). -/
theorem encodeFrame_spec (cmd : Byte) (e c : Bool) (payload : List Byte) (s : State) :
    (encodeResult s.params cmd e c payload = .ok ∧
      encodeFrame cmd e c payload s = storeTx (wireFrame s.params cmd e c payload) s) ∨
    (encodeResult s.params cmd e c payload ≠ .ok ∧ encodeFrame cmd e c payload s = s) := by
  unfold encodeFrame
  cases encodeResult s.params cmd e c payload <;> simp

/-- When ENCODE succeeds: none of the checks of 41 R76 and R79 fails. -/
theorem encodeResult_ok_iff (p : Params) (cmd : Byte) (e c : Bool) (payload : List Byte) :
    encodeResult p cmd e c payload = .ok ↔
      isControl cmd = false ∧ payload.length ≤ p.payloadCap ∧
      (wireFrame p cmd e c payload).length ≤ p.txCap := by
  unfold encodeResult
  split_ifs <;> simp_all

/-- The length of a wire frame: the run and its ESCAPE bytes between four framing bytes. -/
theorem wireFrame_length (p : Params) (cmd : Byte) (e c : Bool) (payload : List Byte) :
    (wireFrame p cmd e c payload).length = 4 + (stuff (runOf p cmd c payload)).length := by
  simp [wireFrame]; omega

theorem runOf_length (p : Params) (cmd : Byte) (c : Bool) (payload : List Byte) :
    (runOf p cmd c payload).length = payload.length + crcCount c := by
  cases c <;> simp [runOf, crcCount]

/-! ### Taking the next operation -/

/-- What a step can be: idle, a refusal of a malformed request, or `exec` of the decoded operation. -/
theorem step_spec (s : State) :
    (s.pending = [] ∧ step s = .next s) ∨
    (∃ r rest i, s.pending = r :: rest ∧ decode s.params r = .ok i ∧
      step s = exec i (setPending rest s)) ∨
    (∃ r rest why, s.pending = r :: rest ∧ decode s.params r = .error why ∧
      step s = .refused (.malformedRequest why)) := by
  unfold step fetch
  cases hp : s.pending with
  | nil => exact .inl ⟨rfl, rfl⟩
  | cons r rest =>
    cases hd : decode s.params r with
    | ok i => exact .inr (.inl ⟨r, rest, i, rfl, hd, by simp [hd]⟩)
    | error why => exact .inr (.inr ⟨r, rest, why, rfl, hd, by simp [hd]⟩)

end Sys2Proof.Machine
end

