-- ==== Sys2Proof/Laws/Wire.lean ====
section
/-! SUPPORT. What an operation that feeds the block a byte does, said once through the byte's class,
and the classes by range (30 R47). -/

namespace Sys2Proof.Machine

theorem classify_dataLoByte : ∀ d : BitVec 7, classify (dataLoByte d) = .data := by decide

theorem classify_dataHiByte : ∀ d : BitVec 6, classify (dataHiByte d) = .data := by decide

theorem classify_tailByte : ∀ c e, classify (tailByte c e) = .tail c e := by decide

theorem classify_headByte : ∀ c e, classify (headByte c e) = .head c e := by decide

theorem classify_escapeByte : ∀ m : Mask, classify (escapeByte m) = .escape m := by decide

theorem classify_unknownA : ∀ x : BitVec 3, classify (unknownAByte x) = .unknown := by decide

theorem classify_unknownB : ∀ x : BitVec 5, classify (unknownBByte x) = .unknown := by decide

/-- Both forms of an operation that feeds a byte do what RX_BYTE does with it. -/
theorem exec_of_wireByte {i : Instr} {b : Byte} (h : wireByte i = some b) (s : State) :
    exec i s = .next (setResult .none (receiveByte b s)) := by
  cases i <;> simp only [wireByte, Option.some.injEq, reduceCtorEq] at h <;> subst h
  · simp [exec, execDataLo, receiveByte, classify_dataLoByte]
  · simp [exec, execDataHi, receiveByte, classify_dataHiByte]
  · simp [exec, execTail, receiveByte, classify_tailByte]
  · simp [exec, execHead, receiveByte, classify_headByte]
  · simp [exec, execUnknownA, receiveByte, classify_unknownA]
  · simp [exec, execEscape, receiveByte, classify_escapeByte]
  · simp [exec, execUnknownB, receiveByte, classify_unknownB]
  · rfl

theorem classify_of_data : ∀ b : Byte, b.toNat ≤ 0xBF → classify b = .data := by decide

theorem classify_of_tail : ∀ b : Byte, 0xC0 ≤ b.toNat → b.toNat ≤ 0xC3 →
    classify b = .tail b[1] b[0] := by decide

theorem classify_of_head : ∀ b : Byte, 0xC4 ≤ b.toNat → b.toNat ≤ 0xC7 →
    classify b = .head b[1] b[0] := by decide

theorem classify_of_escape : ∀ b : Byte, 0xD0 ≤ b.toNat → b.toNat ≤ 0xDF →
    classify b = .escape (b.extractLsb' 0 4) := by decide

theorem classify_of_unknown : ∀ b : Byte,
    (0xC8 ≤ b.toNat ∧ b.toNat ≤ 0xCF ∨ 0xE0 ≤ b.toNat) → classify b = .unknown := by decide

/-- Every byte is in one of the five ranges. -/
theorem range_cases (b : Byte) :
    b.toNat ≤ 0xBF ∨ (0xC0 ≤ b.toNat ∧ b.toNat ≤ 0xC3) ∨ (0xC4 ≤ b.toNat ∧ b.toNat ≤ 0xC7) ∨
    (0xD0 ≤ b.toNat ∧ b.toNat ≤ 0xDF) ∨
    (0xC8 ≤ b.toNat ∧ b.toNat ≤ 0xCF ∨ 0xE0 ≤ b.toNat) := by omega

/-- What feeding a byte can do, by the range of the byte (42 R87). -/
theorem receiveByte_cases (b : Byte) (s : State) :
    (b.toNat ≤ 0xBF ∧ receiveByte b s = receiveData b s) ∨
    (0xC0 ≤ b.toNat ∧ b.toNat ≤ 0xC3 ∧
      receiveByte b s = receiveTail b[1] b[0] s) ∨
    (0xC4 ≤ b.toNat ∧ b.toNat ≤ 0xC7 ∧
      receiveByte b s = receiveHead b[1] b[0] s) ∨
    (0xD0 ≤ b.toNat ∧ b.toNat ≤ 0xDF ∧
      receiveByte b s = receiveEscape (b.extractLsb' 0 4) s) ∨
    ((0xC8 ≤ b.toNat ∧ b.toNat ≤ 0xCF ∨ 0xE0 ≤ b.toNat) ∧ receiveByte b s = receiveUnknown s) := by
  unfold receiveByte
  obtain h | h | h | h | h := range_cases b
  · exact .inl ⟨h, by rw [classify_of_data b h]⟩
  · exact .inr (.inl ⟨h.1, h.2, by rw [classify_of_tail b h.1 h.2]⟩)
  · exact .inr (.inr (.inl ⟨h.1, h.2, by rw [classify_of_head b h.1 h.2]⟩))
  · exact .inr (.inr (.inr (.inl ⟨h.1, h.2, by rw [classify_of_escape b h.1 h.2]⟩)))
  · exact .inr (.inr (.inr (.inr ⟨h, by rw [classify_of_unknown b h]⟩)))

/-- Every operation either feeds a byte or is one of the seven others. -/
theorem exec_cases (i : Instr) (s : State) :
    (∃ b, wireByte i = some b ∧ exec i s = .next (setResult .none (receiveByte b s))) ∨
    (i = .reset ∧ exec i s = .next (setResult .none (resetBlock s))) ∨
    (∃ cmd e c payload, i = .encode cmd e c payload ∧
      exec i s = .next (setResult (.encode (encodeResult s.params cmd e c payload))
        (encodeFrame cmd e c payload s))) ∨
    (∃ code, i = .evPush code ∧
      exec i s = .next (setResult (.push (pushResult code s)) (pushEvent code s))) ∨
    (i = .evPop ∧ exec i s = .next (setResult (.event (popResult s)) (popEvent s))) ∨
    (i = .errClear ∧ exec i s = .next (setResult .none (clearErrors s))) ∨
    ((i = .opReserved6 ∨ i = .opReserved7) ∧ exec i s = .next (setResult .none s)) := by
  cases hb : wireByte i with
  | some b => exact .inl ⟨b, rfl, exec_of_wireByte hb s⟩
  | none =>
    refine .inr ?_
    cases i with
    | reset => exact .inl ⟨rfl, rfl⟩
    | encode cmd e c payload => exact .inr (.inl ⟨cmd, e, c, payload, rfl, rfl⟩)
    | evPush code => exact .inr (.inr (.inl ⟨code, rfl, rfl⟩))
    | evPop => exact .inr (.inr (.inr (.inl ⟨rfl, rfl⟩)))
    | errClear => exact .inr (.inr (.inr (.inr (.inl ⟨rfl, rfl⟩))))
    | opReserved6 => exact .inr (.inr (.inr (.inr (.inr ⟨.inl rfl, rfl⟩))))
    | opReserved7 => exact .inr (.inr (.inr (.inr (.inr ⟨.inr rfl, rfl⟩))))
    | _ => simp [wireByte] at hb

end Sys2Proof.Machine
end

