-- ==== Sys2Proof/Laws/Environment.lean ====
section
/-! SUPPORT. What running an agent's program can do, said once: every program completes, programs
compose, and the shared program that encodes a frame and reads it out. -/

namespace Sys2Proof.Machine

/-! ### Operations one after another -/

@[simp] theorem andThen_next {α β : Type} (a : α) (next : α → Host.Outcome β Fault Refusal) :
    andThen (.next a) next = next a := rfl

@[simp] theorem applyAll_nil (s : State) : applyAll [] s = .next s := rfl

@[simp] theorem applyAll_cons (i : Instr) (rest : List Instr) (s : State) :
    applyAll (i :: rest) s = andThen (exec i s) (applyAll rest) := rfl

theorem exec_next (i : Instr) (s : State) : ∃ t, exec i s = .next t := by
  cases i <;> exact ⟨_, rfl⟩

theorem applyAll_next (ops : List Instr) : ∀ s, ∃ t, applyAll ops s = .next t := by
  induction ops with
  | nil => exact fun s => ⟨s, rfl⟩
  | cons i rest ih =>
    intro s
    obtain ⟨t, ht⟩ := exec_next i s
    simpa [ht] using ih t

theorem applyAll_append (a b : List Instr) :
    ∀ s, applyAll (a ++ b) s = andThen (applyAll a s) (applyAll b) := by
  induction a with
  | nil => intro s; rfl
  | cons i rest ih =>
    intro s
    obtain ⟨t, ht⟩ := exec_next i s
    simp [ht, ih]

@[simp] theorem receiveBytes_nil (s : State) : receiveBytes [] s = .next s := rfl

@[simp] theorem receiveBytes_cons (b : Byte) (bytes : List Byte) (s : State) :
    receiveBytes (b :: bytes) s = andThen (exec (.rxByte b) s) (receiveBytes bytes) := rfl

theorem receiveBytes_append (a b : List Byte) (s : State) :
    receiveBytes (a ++ b) s = andThen (receiveBytes a s) (receiveBytes b) := by
  rw [receiveBytes, List.map_append, applyAll_append]
  rfl

/-! ### Running a program -/

section
variable {α β : Type}

@[simp] theorem Program.run_done (answer : α) (others : List (List Instr)) (s : State) :
    (Program.done answer).run others s = .next (s, answer) := rfl

@[simp] theorem Program.run_apply_alone (i : Instr) (rest : Result → Program α) (s : State) :
    (Program.apply i rest).run [] s = andThen (exec i s) fun u => (rest u.result).run [] u := rfl

@[simp] theorem Program.run_observe_alone (rest : Snapshot → Program α) (s : State) :
    (Program.observe rest).run [] s = (rest (snapshotOf s)).run [] s := rfl

@[simp] theorem Program.bind_done (answer : α) (next : α → Program β) :
    (Program.done answer).bind next = next answer := rfl

@[simp] theorem Program.bind_apply (i : Instr) (rest : Result → Program α) (next : α → Program β) :
    (Program.apply i rest).bind next = .apply i fun r => (rest r).bind next := rfl

@[simp] theorem Program.bind_observe (rest : Snapshot → Program α) (next : α → Program β) :
    (Program.observe rest).bind next = .observe fun o => (rest o).bind next := rfl

/-- Every program completes, whatever the other agents do: no operation blocks (60 R135, R149). -/
theorem Program.run_next (p : Program α) :
    ∀ others s, ∃ t answer, p.run others s = .next (t, answer) := by
  induction p with
  | done answer => exact fun _ s => ⟨s, answer, rfl⟩
  | apply i rest ih =>
    intro others s
    obtain ⟨t, ht⟩ := applyAll_next (others.headD []) s
    obtain ⟨u, hu⟩ := exec_next i t
    rw [Program.run, ht, andThen_next, hu]
    exact ih u.result others.tail u
  | observe rest ih =>
    intro others s
    obtain ⟨t, ht⟩ := applyAll_next (others.headD []) s
    rw [Program.run, ht]
    exact ih (snapshotOf t) others.tail t

/-- With no other agent, a program after another runs on the state the first one left. -/
theorem Program.run_bind_alone (p : Program α) (next : α → Program β) :
    ∀ s, (p.bind next).run [] s = andThen (p.run [] s) fun x => (next x.2).run [] x.1 := by
  induction p with
  | done answer => intro s; rfl
  | apply i rest ih =>
    intro s
    obtain ⟨u, hu⟩ := exec_next i s
    simp [hu, ih]
  | observe rest ih => intro s; simp [ih]

end

/-! ### Observations -/

/-- A snapshot shows the decoded packet of its state. -/
@[simp] theorem snapshotOf_packet (s : State) : (snapshotOf s).packet = packetOf s := by
  cases h : s.pktValid <;> simp [Snapshot.packet, snapshotOf, packetOf, h]

/-- A snapshot shows the encoded frame of its state. -/
@[simp] theorem snapshotOf_frame (s : State) : (snapshotOf s).frame = txFrame s := rfl

/-! ### The environment's programs -/

/-- The frame just stored is what an observation reads. -/
@[simp] theorem txFrame_storeTx (r : Result) (wire : List Byte) (s : State) :
    txFrame (setResult r (storeTx wire s)) = wire := by
  simp [txFrame, Memory.readBytes_writeBytes]

/-- Encoding a frame and reading it out, with no other agent: the whole wire frame, or ENCODE's
refusal. -/
theorem encodeOut_run_alone (cmd : Byte) (e c : Bool) (payload : List Byte) (s : State) :
    (encodeOut (.encode cmd e c payload)).run [] s =
      .next (setResult (.encode (encodeResult s.params cmd e c payload))
          (encodeFrame cmd e c payload s),
        if encodeResult s.params cmd e c payload = .ok then
          .ok (wireFrame s.params cmd e c payload)
        else .error (.encode (encodeResult s.params cmd e c payload))) := by
  by_cases h : encodeResult s.params cmd e c payload = .ok
  · simp [encodeOut, exec, execEncode, h, encodeFrame]
  · simp [encodeOut, exec, execEncode, h]

/-- ENCODE leaves the parameters alone. -/
@[simp] theorem encodeFrame_params (cmd : Byte) (e c : Bool) (payload : List Byte) (s : State) :
    (encodeFrame cmd e c payload s).params = s.params := by
  unfold encodeFrame; split <;> rfl

/-- The driver's loop with no other agent: it ends at Idle, or hands the event popped to the
transition and goes on. -/
theorem driverLoop_run_alone {σ : Type} (transition : σ → Action → EventCode → Program σ)
    (bound : Nat) (s : State) (cur : σ) :
    (driverLoop transition (bound + 1) cur).run [] s =
      if popResult s = idle then
        .next (setResult (.event (popResult s)) (popEvent s), some cur)
      else
        ((transition cur .during (popResult s)).bind (driverLoop transition bound)).run []
          (setResult (.event (popResult s)) (popEvent s)) := by
  by_cases h : popResult s = idle <;> simp [driverLoop, exec, execEvPop, poppedEvent, h]

/-- The read service on a payload that holds an address. -/
theorem readMemory_of_address {localOrder : Bool} {resolve : BitVec 32 → List Byte}
    {short unresolved : Handler} {p : Packet} {n : Nat} {b0 b1 b2 b3 : Byte} {rest : List Byte}
    (hcount : readCount (Command.unpack p.cmd).subfunction = some n)
    (hpayload : p.payload = b0 :: b1 :: b2 :: b3 :: rest) :
    readMemory localOrder resolve short unresolved p =
      if n ≤ (resolve (wordOf p.order localOrder b0 b1 b2 b3)).length then
        some ((resolve (wordOf p.order localOrder b0 b1 b2 b3)).take n)
      else unresolved p := by
  simp [readMemory, hcount, hpayload]

/-- The read service on a subfunction it does not have. -/
theorem readMemory_of_no_count {localOrder : Bool} {resolve : BitVec 32 → List Byte}
    {short unresolved : Handler} {p : Packet}
    (hcount : readCount (Command.unpack p.cmd).subfunction = none) :
    readMemory localOrder resolve short unresolved p = none := by
  simp [readMemory, hcount]

/-- Service id 0 is the read service. -/
@[simp] theorem serviceTable_zero (services : Services) :
    serviceTable services 0 =
      readMemory services.localOrder services.resolve services.short services.unresolved := rfl

/-- Any other service id has its own handler, or the default one. -/
theorem serviceTable_of_ne_zero {services : Services} {service : BitVec 3} (h : service ≠ 0) :
    serviceTable services service = (services.others service).getD defaultHandler := if_neg h

end Sys2Proof.Machine
end

