-- ==== Sys2Proof/Laws/PerInstr.lean ====
section
/-! SUPPORT. A statement made for every constructor of Instr: its encoding lies in its own row of
spec/opcode_table.json. -/

namespace Sys2Proof.Laws.EncodingMatchesRow

/-- A row's `mask` and `match`, as the table writes them, or its select code. -/
inductive Row where
  | wire (mask value : Byte)
  | select (code : BitVec 3)

/-- The table's row of each constructor. -/
def rowOf : Instr → Row
  | .dataLo _ => .wire 0x80 0x00
  | .dataHi _ => .wire 0xC0 0x80
  | .tail _ _ => .wire 0xFC 0xC0
  | .head _ _ => .wire 0xFC 0xC4
  | .unknownA _ => .wire 0xF8 0xC8
  | .escape _ => .wire 0xF0 0xD0
  | .unknownB _ => .wire 0xE0 0xE0
  | .reset => .select 0
  | .rxByte _ => .select 1
  | .encode _ _ _ _ => .select 2
  | .evPush _ => .select 3
  | .evPop => .select 4
  | .errClear => .select 5
  | .opReserved6 => .select 6
  | .opReserved7 => .select 7

/-- A request lies in a row. -/
def Row.Holds : Row → Request → Prop
  | .wire mask value, .wire b => b &&& mask = value
  | .select code, .op c _ => c = code
  | _, _ => False

/-- The operation's request lies in its own row, whatever the parameters. -/
def Statement (i : Instr) : Prop := ∀ p, (rowOf i).Holds (encode p i)

theorem dataLo (d : BitVec 7) : Statement (.dataLo d) := fun _ => by
  have h : ∀ d : BitVec 7, (0b0#1 ++ d : BitVec 8) &&& 0x80 = 0x00 := by decide
  exact h d

theorem dataHi (d : BitVec 6) : Statement (.dataHi d) := fun _ => by
  have h : ∀ d : BitVec 6, (0b10#2 ++ d : BitVec 8) &&& 0xC0 = 0x80 := by decide
  exact h d

theorem tail (c e : Bool) : Statement (.tail c e) := fun _ => by
  cases c <;> cases e <;> rfl

theorem head (c e : Bool) : Statement (.head c e) := fun _ => by
  cases c <;> cases e <;> rfl

theorem unknownA (x : BitVec 3) : Statement (.unknownA x) := fun _ => by
  have h : ∀ x : BitVec 3, (0b11001#5 ++ x : BitVec 8) &&& 0xF8 = 0xC8 := by decide
  exact h x

theorem escape (m : Mask) : Statement (.escape m) := fun _ => by
  have h : ∀ m : BitVec 4, (0b1101#4 ++ m : BitVec 8) &&& 0xF0 = 0xD0 := by decide
  exact h m

theorem unknownB (x : BitVec 5) : Statement (.unknownB x) := fun _ => by
  have h : ∀ x : BitVec 5, (0b111#3 ++ x : BitVec 8) &&& 0xE0 = 0xE0 := by decide
  exact h x

theorem reset : Statement .reset := fun _ => rfl

theorem rxByte (b : Byte) : Statement (.rxByte b) := fun _ => rfl

theorem encode (cmd : Byte) (e c : Bool) (payload : List Byte) :
    Statement (.encode cmd e c payload) := fun _ => rfl

theorem evPush (code : EventCode) : Statement (.evPush code) := fun _ => rfl

theorem evPop : Statement .evPop := fun _ => rfl

theorem errClear : Statement .errClear := fun _ => rfl

theorem opReserved6 : Statement .opReserved6 := fun _ => rfl

theorem opReserved7 : Statement .opReserved7 := fun _ => rfl

end Sys2Proof.Laws.EncodingMatchesRow
end

