-- ==== Sys2Proof/Tests/Slice0.lean ====
section
/-! SUPPORT. Small tests, expected values from spec/95_test_vectors.md and the worked examples of
the rules; and a witness for the hypotheses of each statement. -/

namespace Sys2Proof.Tests

open Sys2Proof.Machine

/-! ### Small states -/

/-- A block in a frame that has stored `bytes`. -/
def inFrame (bytes : List Byte) (mask : Mask) (c e : Bool) : State :=
  { State.reset with
    rxActive := true
    rxBuf := Memory.writeBytes [] 0 bytes
    rxLen := bytes.length
    rxMask := mask
    rxHeadC := c
    rxHeadE := e }

/-- A block whose live events are `codes`, oldest first. -/
def withEvents (codes : List EventCode) : State :=
  { State.reset with
    stk := codes.zipIdx.foldl (fun m x => Slots.write m (x.2 + 1) x.1) []
    sp := codes.length }

/-- The state an operation leads to. -/
def after (i : Instr) (s : State) : State :=
  match exec i s with
  | .next t => t
  | .fault _ => s
  | .refused _ => s

/-! ### Well-formedness and decoding -/

/-- 41 R75: L is one byte. -/
theorem test_wellFormed_refuses_256_payload_bytes :
    wellFormed Params.default (.encode 0 false false (List.replicate 256 0)) = false ∧
    wellFormed Params.default (.encode 0 false false (List.replicate 255 0)) = true := by decide +kernel

/-- 43 R105: an event code has EVW bits, 8 by default. -/
theorem test_wellFormed_refuses_wide_code :
    wellFormed Params.default (.evPush 256) = false ∧
    wellFormed Params.default (.evPush 255) = true := by decide

/-- 30 R47: a word of each wire-byte row, written out bit by bit. -/
theorem test_decode_wire_rows :
    decodeWire 0b01010101 = .dataLo 0b1010101 ∧ decodeWire 0b10111110 = .dataHi 0b111110 ∧
    decodeWire 0b11000010 = .tail true false ∧ decodeWire 0b11000101 = .head false true ∧
    decodeWire 0b11001110 = .unknownA 0b110 ∧ decodeWire 0b11010001 = .escape 0b0001 ∧
    decodeWire 0b11110111 = .unknownB 0b10111 := by decide

/-- 00 R8: a word of each select code. -/
theorem test_decode_select_codes :
    decodeSelect Params.default 0b000 [] = .ok .reset ∧
    decodeSelect Params.default 0b001 [0xC5] = .ok (.rxByte 0xC5) ∧
    decodeSelect Params.default 0b010 [0x04, 0x02, 0x02, 0xC0, 0x11] =
      .ok (.encode 0x04 false true [0xC0, 0x11]) ∧
    decodeSelect Params.default 0b011 [0x02] = .ok (.evPush 2) ∧
    decodeSelect Params.default 0b100 [] = .ok .evPop ∧
    decodeSelect Params.default 0b101 [] = .ok .errClear ∧
    decodeSelect Params.default 0b110 [] = .ok .opReserved6 ∧
    decodeSelect Params.default 0b111 [] = .ok .opReserved7 := by decide

/-- 00 R8: the unassigned codes are ignored, also with operand bytes. -/
theorem test_decode_unassigned_with_operands :
    decodeSelect Params.default 0b110 [0x04, 0xFF] = .ok .opReserved6 ∧
    decodeSelect Params.default 0b111 [0x00] = .ok .opReserved7 := by decide

/-- Requests that are no operation are refused by name. -/
theorem test_decode_refuses_malformed :
    decodeSelect Params.default 0b001 [] = .error .operandCount ∧
    decodeSelect Params.default 0b010 [0x04, 0x00, 0x02, 0x11] = .error .operandCount ∧
    decodeSelect Params.default 0b010 [0x04, 0x04, 0x00] = .error .flagBits ∧
    decodeSelect { Params.default with evWidth := 4 } 0b011 [0x10] = .error .eventCodeWidth ∧
    decodeSelect Params.default 0b101 [0x00] = .error .operandCount := by decide

/-- The opcode table's numbering: wire bytes, and select codes with operands of zeros. -/
theorem test_decodeTableWord :
    decodeTableWord 8 0xC6 = some (.head true false) ∧ decodeTableWord 8 0x44 = some (.dataLo 0x44) ∧
    decodeTableWord 3 2 = some (.encode 0 false false []) ∧
    decodeTableWord 8 3 = some (.evPush 0) ∧ decodeTableWord 16 0xC401 = some (.rxByte 0xC4) := by
  decide

/-- The word placed by `withFetchWord` is what the next step runs. -/
theorem test_withFetchWord_runs_next :
    (match step (State.reset.withFetchWord 8 0xC6) with
      | .next t => t.rxActive && t.rxHeadC && !t.rxHeadE && t.pending.isEmpty
      | _ => false) = true := by decide

/-! ### Primitives -/

/-- 95 §2.1: is_control, fold, clear_marker, restore_marker of the sixteen bytes listed. -/
theorem test_primitives_table :
    ([(0x00, false, 0x00, 0x00, 0x80), (0x3F, false, 0x3F, 0x3F, 0xBF),
        (0x40, false, 0x80, 0x40, 0xC0), (0x7F, false, 0xBF, 0x7F, 0xFF),
        (0x80, false, 0x40, 0x00, 0x80), (0xBF, false, 0x7F, 0x3F, 0xBF),
        (0xC0, true, 0xC0, 0x40, 0xC0), (0xC3, true, 0xC3, 0x43, 0xC3),
        (0xC4, true, 0xC4, 0x44, 0xC4), (0xC7, true, 0xC7, 0x47, 0xC7),
        (0xC8, true, 0xC8, 0x48, 0xC8), (0xCF, true, 0xCF, 0x4F, 0xCF),
        (0xD0, true, 0xD0, 0x50, 0xD0), (0xDF, true, 0xDF, 0x5F, 0xDF),
        (0xE0, true, 0xE0, 0x60, 0xE0), (0xFF, true, 0xFF, 0x7F, 0xFF)] :
        List (Byte × Bool × Byte × Byte × Byte)).all (fun x =>
      isControl x.1 == x.2.1 && fold x.1 == x.2.2.1 && clearMarker x.1 == x.2.2.2.1 &&
        restoreMarker x.1 == x.2.2.2.2) = true := by decide +kernel

/-- 95 §2.1: the classes of the table's control bytes. -/
theorem test_classes :
    classify 0xBF = .data ∧ classify 0xC3 = .tail true true ∧ classify 0xC4 = .head false false ∧
    classify 0xC8 = .unknown ∧ classify 0xCF = .unknown ∧ classify 0xD0 = .escape 0 ∧
    classify 0xDF = .escape 0xF ∧ classify 0xE0 = .unknown ∧ classify 0xFF = .unknown := by decide

/-- 40 R72, 95 §2.1: the check values of the default CRC. -/
theorem test_crc8_check_values :
    crc8 [] = 0x00 ∧ crc8 [0x01] = 0x07 ∧ crc8 [0xFF] = 0xF3 ∧
    crc8 [0x31, 0x32, 0x33, 0x34, 0x35, 0x36, 0x37, 0x38, 0x39] = 0xF4 ∧
    crc8 [0x02, 0x12, 0x11, 0x22] = 0xF4 := by decide +kernel

/-- 95 §2.2: stuffed runs. -/
theorem test_stuff_table :
    stuff [0x40, 0xC0] = [0x40, 0xD1, 0x40] ∧ stuff [0x01, 0x02, 0xE5] = [0x01, 0x02, 0xD1, 0x65] ∧
    stuff [0xC0, 0xC0, 0xC0, 0xC0, 0xC0] = [0xDF, 0x40, 0x40, 0x40, 0x40, 0xD1, 0x40] ∧
    stuff [0xFF, 0x00, 0x00, 0x00, 0xFF] = [0xD1, 0x7F, 0x00, 0x00, 0x00, 0xD1, 0x7F] := by decide +kernel

/-! ### Operations, one step each -/

/-- 42 R88: the example's head byte, and a packet invalidated. -/
theorem test_head_opens :
    (after (.head true false) { inFrame [1, 2] 5 false true with pktValid := true }).rxLen = 0 ∧
    (after (.head true false) { inFrame [1, 2] 5 false true with pktValid := true }).rxMask = 0 ∧
    (after (.head true false) { inFrame [1, 2] 5 false true with pktValid := true }).rxHeadC = true ∧
    (after (.head true false) { inFrame [1, 2] 5 false true with pktValid := true }).pktValid = false := by
  decide

/-- 42 R92: mask 0101, byte 40 stores C0 and leaves 0010. -/
theorem test_data_restored :
    (after (.dataLo 0x40) (inFrame [6, 4, 1] 0b0101 false true)).rxBuf.read 3 = 0xC0 ∧
    (after (.dataLo 0x40) (inFrame [6, 4, 1] 0b0101 false true)).rxMask = 0b0010 := by decide

/-- 42 R93: the byte after RX_CAP bytes is not stored. -/
theorem test_data_overflow :
    (after (.dataHi 1) { inFrame [] 1 false false with rxLen := 67 }).errRxOvf = true ∧
    (after (.dataHi 1) { inFrame [] 1 false false with rxLen := 67 }).rxLen = 0 ∧
    (after (.dataHi 1) { inFrame [] 1 false false with rxLen := 67 }).rxBuf = [] := by decide

/-- 95 §2.4 R8: C6 02 12 11 22 D1 74 C2, at its TAIL. -/
theorem test_tail_accepts_crc :
    packetOf (after (.tail true false) (inFrame [0x02, 0x12, 0x11, 0x22, 0xF4] 0 true false)) =
      some ⟨0x12, false, true, [0x11, 0x22]⟩ ∧
    (after (.tail true false) (inFrame [0x02, 0x12, 0x11, 0x22, 0xF4] 0 true false)).stk = [(1, 1)] := by
  decide +kernel

/-- 95 §2.4 X1a, R6, R9: head/tail mismatch, count and check failures drop silently. -/
theorem test_tail_drops :
    (after (.tail false true) (inFrame [0, 0] 0 false false)).pktValid = false ∧
    (after (.tail false false) (inFrame [2, 4, 0x11] 0 false false)).sp = 0 ∧
    (after (.tail true false) (inFrame [0x02, 0x12, 0x11, 0x22, 0xF5] 0 true false)).pktValid = false := by
  decide +kernel

/-- 95 §2.4, stale bytes: with STRICT_LENGTH = 0 the short frame is accepted with payload 11 BB. -/
theorem test_tail_not_strict :
    packetOf (after (.tail false false)
      { inFrame [0x02, 0x05, 0x11, 0xBB] 0 false false with
        rxLen := 3, params := { Params.default with strictLength := false } }) =
      some ⟨0x05, false, false, [0x11, 0xBB]⟩ := by decide

/-- 42 R90. -/
theorem test_escape :
    (after (.escape 0b0101) (inFrame [] 0 false false)).rxMask = 0b0101 ∧
    (after (.escape 0b0101) State.reset).rxMask = 0 := by decide

/-- 42 R91: 95 program P2's byte EE drops the frame. -/
theorem test_unknown_drops :
    (after (.unknownB 0b01110) (inFrame [1, 4] 3 true false)).rxActive = false ∧
    (after (.unknownA 0) (inFrame [1, 4] 3 true false)).rxLen = 0 := by decide

/-- 42 R85: RX_BYTE with a HEAD value and with a data value. -/
theorem test_rxByte :
    (after (.rxByte 0xC6) State.reset).rxHeadC = true ∧
    (after (.rxByte 0x7F) (inFrame [6, 4, 1, 0xC0, 2] 1 false true)).rxBuf.read 5 = 0xFF := by decide

/-- 95 E5. -/
theorem test_encode_e5 :
    txFrame (after (.encode 0x04 true false [0x01, 0xC0, 0x02, 0xFF, 0x03, 0xC1]) State.reset) =
      [0xC5, 0x06, 0x04, 0x01, 0xD5, 0x40, 0x02, 0x7F, 0x03, 0xD1, 0x41, 0xC1] := by decide +kernel

/-- 95 E8, E18, E11, E13, and TX_CAP lowered to 10 with E6. -/
theorem test_encode_crc_and_refusals :
    txFrame (after (.encode 0x12 false true [0x11, 0x22]) State.reset) =
      [0xC6, 0x02, 0x12, 0x11, 0x22, 0xD1, 0x74, 0xC2] ∧
    txFrame (after (.encode 0x04 false true [0xC0, 0x00, 0x30]) State.reset) =
      [0xC6, 0x03, 0x04, 0xD9, 0x40, 0x00, 0x30, 0x63, 0xC2] ∧
    (after (.encode 0xC0 false false []) State.reset).result = .encode .badCommand ∧
    (after (.encode 0x04 false false (List.replicate 65 0)) State.reset).result = .encode .tooLarge ∧
    (after (.encode 0x04 false false [0xC0, 0xC1, 0xC2, 0xC3, 0xC4])
      (State.init { Params.default with txCap := 10 })).result = .encode .tooLarge := by decide +kernel

/-- 95 V6 and V4: Idle on the empty stack is a duplicate; deduplication is against the top only. -/
theorem test_evPush_duplicates :
    (after (.evPush 0) State.reset).result = .push .dup ∧
    (after (.evPush 1) (withEvents [1, 2])).result = .push .stored ∧
    (after (.evPush 1) (withEvents [1, 2])).sp = 3 := by decide

/-- 95 V8: full comes before duplicate. -/
theorem test_evPush_full :
    (after (.evPush 7) (withEvents [1, 2, 3, 4, 5, 6, 7])).result = .push .full ∧
    (after (.evPush 7) (withEvents [1, 2, 3, 4, 5, 6, 7])).errEvFull = true ∧
    (after (.evPush 7) (withEvents [1, 2, 3, 4, 5, 6, 7])).sp = 7 := by decide

/-- 43 R106's example, and 95 V3. -/
theorem test_evPop :
    (after .evPop (withEvents [1, 2])).result = .event 2 ∧ (after .evPop (withEvents [1, 2])).sp = 1 ∧
    (after .evPop State.reset).result = .event 0 ∧ (after .evPop State.reset).sp = 0 := by decide

/-- 60 R141's example. -/
theorem test_errClear :
    (after .errClear { withEvents [1] with errEvFull := true, errRxOvf := true }).errEvFull = false ∧
    (after .errClear { withEvents [1] with errEvFull := true, errRxOvf := true }).errRxOvf = false ∧
    (after .errClear { withEvents [1] with errEvFull := true, errRxOvf := true }).sp = 1 := by decide

/-- 95 Z2. -/
theorem test_reset :
    after .reset { inFrame [2, 4, 0x11] 0 false false with stk := [(1, 5)], sp := 1 } =
      State.reset := by decide

/-- 60 R137 X14. -/
theorem test_reserved :
    after .opReserved6 (inFrame [1] 1 true true) = inFrame [1] 1 true true ∧
    after .opReserved7 (withEvents [3]) = withEvents [3] := by decide

/-! ### The environment -/

/-- 95 P6: the Command bytes of the handshake, and the read service's address in both orders. -/
theorem test_environment :
    Command.pack ⟨0, 1, .request⟩ = 0x04 ∧ Command.pack ⟨0, 3, .negativeResponse⟩ = 0x0F ∧
    Command.pack ⟨5, 1, .negativeResponse⟩ = 0x57 ∧
    wordOf false false 0x00 0x10 0x00 0x20 = 0x20001000 ∧
    wordOf true false 0x20 0x00 0x10 0x00 = 0x20001000 ∧
    pendingFrame false false ⟨0x04, false, false, []⟩ 9 = .encode 0x05 false false [0x09] := by decide

/-- The answer of a program's run. -/
def answerOf {α : Type} : Host.Outcome (State × α) Fault Refusal → Option α
  | .next x => some x.2
  | .fault _ => none
  | .refused _ => none

theorem next_of_answerOf {α : Type} {o : Host.Outcome (State × α) Fault Refusal} {a : α}
    (h : answerOf o = some a) : ∃ t, o = .next (t, a) := by
  cases o with
  | next x => exact ⟨x.1, by cases h; rfl⟩
  | fault r => cases h
  | refused r => cases h

/-- The services of 95 P6: its accessor, whose view goes on past the four bytes, and the service id 3
populated. -/
def readServices : Services where
  localOrder := false
  resolve a := if a = 0x20001000 then [0xDE, 0xAD, 0xBE, 0xEF, 0x55] else []
  short _ := some [0x01]
  unresolved _ := some [0x02]
  others service := if service = 3 then some fun p => some p.payload else none

/-- Their service table. -/
def readTable : BitVec 3 → Handler := serviceTable readServices

/-- 95 P6: S receives the request, holds the response of nine bytes and sends the announcement; Q is
told to pull nine. -/
theorem test_dispatch_handshake :
    (match receiveBytes [0xC4, 0x04, 0x04, 0x00, 0x10, 0x00, 0x20, 0xC0] State.reset with
      | .next s => answerOf ((dispatch readServices false false false false).run [] s)
      | _ => none) =
      some (.announced ⟨[0xC4, 0x04, 0x06, 0xD9, 0x5E, 0xAD, 0xBE, 0x6F, 0xC0],
        [0xC4, 0x01, 0x05, 0x09, 0xC0]⟩) ∧
    (match receiveBytes [0xC4, 0x01, 0x05, 0x09, 0xC0] State.reset with
      | .next s => answerOf ((dispatch readServices false false false false).run [] s)
      | _ => none) = some (.pull (some 0x09)) := by decide

/-- 95 P6: an unsupported subfunction and an unpopulated service; a populated one (44 R118); and the two open points, answered
by their arguments. -/
theorem test_dispatch_failures :
    answerOf ((dispatchPacket readTable false false false false
      ⟨0x0C, false, false, [0x00, 0x10, 0x00, 0x20]⟩).run [] State.reset) =
      some (.announced ⟨[0xC4, 0x00, 0x0F, 0xC0], [0xC4, 0x01, 0x0D, 0x04, 0xC0]⟩) ∧
    readTable 5 ⟨0x54, false, false, []⟩ = none ∧
    readTable 3 ⟨0x34, false, false, [0x07]⟩ = some [0x07] ∧
    readTable 0 ⟨0x04, false, false, [0x00]⟩ = some [0x01] ∧
    readTable 0 ⟨0x04, false, false, [0x00, 0x00, 0x00, 0x00]⟩ = some [0x02] := by decide

/-- 44 R115, R116: an event that the transition pushes, and one that another agent pushes, are
popped in the same invocation before the older one. -/
theorem test_driver_other_operations :
    answerOf (runPendingWork
      (fun seen _ code =>
        if code = 2 then .apply (.evPush 3) fun _ => .done (seen ++ [code])
        else .done (seen ++ [code]))
      9 [] (withEvents [1, 2]) []) = some (some [2, 3, 1]) ∧
    answerOf (runPendingWork recordEvents 9 [[], [transmitComplete]] (withEvents [1, 3]) []) =
      some (some [3, 2, 1]) := by decide

/-- 44 R127, R128: the wire bytes of a request from a little-endian and from a big-endian host. -/
theorem test_buildRequest :
    answerOf ((buildRequest (fun v => [v.extractLsb' 0 8, v.extractLsb' 8 8, v.extractLsb' 16 8,
      v.extractLsb' 24 8]) 0 1 [0x00, 0x10, 0x00, 0x20] false).run [] State.reset) =
      some (.ok [0xC4, 0x04, 0x04, 0x00, 0x10, 0x00, 0x20, 0xC0]) ∧
    nativeByteOrder (fun v => [v.extractLsb' 24 8, v.extractLsb' 16 8, v.extractLsb' 8 8,
      v.extractLsb' 0 8]) = true := by decide

/-- 95 P2 after its fifth group: the status view, and the top of the stack. -/
theorem test_observe :
    let s := after (.tail false true) (inFrame [0x01, 0x24, 0xC7] 0 false true)
    statusOf s = ⟨false, true, true, false, false, 1, 3, 0⟩ ∧ evTop s = 1 ∧
      evTop State.reset = 0 := by decide

/-- 93 U10: after a HEAD the packet is gone, and the registers still read their old values. -/
theorem test_observe_registers :
    let s := after (.tail false true) (inFrame [0x01, 0x24, 0xC7] 0 false true)
    (snapshotOf s).packet = some ⟨0x24, true, false, [0xC7]⟩ ∧
    (snapshotOf (after (.head false false) s)).packet = none ∧
    (snapshotOf (after (.head false false) s)).payload = none ∧
    (snapshotOf (after (.head false false) s)).pktCmd = 0x24 ∧
    (snapshotOf (after (.head false false) s)).pktLen = 1 ∧
    (snapshotOf (after (.head false false) s)).pktOrder = true := by decide

/-! ### Witnesses: for each statement with hypotheses, values that meet them together -/

/-- A block that has accepted the packet `11 22` and holds its event, with a HEAD byte to come. -/
def packetState : State :=
  setPending [.wire 0xC6]
    (after (.tail false false) (inFrame [0x02, 0x04, 0x11, 0x22] 0 false false))

/-- A block of default parameters but for the two capacities. -/
def withCaps (rx tx : Nat) (s : State) : State :=
  { s with params := { s.params with rxCap := rx, txCap := tx } }

theorem witness_HeadStartsAFrame :
    (wireByte (.head false false) = some 0xC4 ∧ wireByte (.rxByte 0xC4) = some 0xC4 ∧
      0xC4 ≤ (0xC4 : Byte).toNat ∧ (0xC4 : Byte).toNat ≤ 0xC7) ∧
    (wireByte (.head true true) = some 0xC7 ∧ wireByte (.rxByte 0xC7) = some 0xC7 ∧
      0xC4 ≤ (0xC7 : Byte).toNat ∧ (0xC7 : Byte).toNat ≤ 0xC7) := by decide

theorem witness_TailOutsideAFrameDoesNothing :
    (wireByte (.tail false false) = some 0xC0 ∧ wireByte (.rxByte 0xC0) = some 0xC0 ∧
      0xC0 ≤ (0xC0 : Byte).toNat ∧ (0xC0 : Byte).toNat ≤ 0xC3 ∧ State.reset.rxActive = false) ∧
    (wireByte (.tail true true) = some 0xC3 ∧ wireByte (.rxByte 0xC3) = some 0xC3 ∧
      0xC0 ≤ (0xC3 : Byte).toNat ∧ (0xC3 : Byte).toNat ≤ 0xC3 ∧ packetState.rxActive = false) := by
  decide

theorem witness_EscapeLoadsTheMask :
    (wireByte (.escape 0x0) = some 0xD0 ∧ wireByte (.rxByte 0xD0) = some 0xD0 ∧
      0xD0 ≤ (0xD0 : Byte).toNat ∧ (0xD0 : Byte).toNat ≤ 0xDF) ∧
    (wireByte (.escape 0xF) = some 0xDF ∧ wireByte (.rxByte 0xDF) = some 0xDF ∧
      0xD0 ≤ (0xDF : Byte).toNat ∧ (0xDF : Byte).toNat ≤ 0xDF) := by decide

/-- Both ranges at both ends, and both clauses. -/
theorem witness_UnknownByteDropsTheFrame :
    (∀ x ∈ ([(.unknownA 0, 0xC8), (.unknownA 7, 0xCF), (.unknownB 0, 0xE0), (.unknownB 0x1F, 0xFF),
        (.rxByte 0xC8, 0xC8), (.rxByte 0xFF, 0xFF)] : List (Instr × Byte)),
      wireByte x.1 = some x.2 ∧
        (0xC8 ≤ x.2.toNat ∧ x.2.toNat ≤ 0xCF ∨ 0xE0 ≤ x.2.toNat)) ∧
    (inFrame [1] 1 false true).rxActive = true ∧ State.reset.rxActive = false := by decide

/-- Each end of both rows; the last free index, with a set and a clear mask bit; no frame. -/
theorem witness_DataByteIsRestoredAndStored :
    (∀ x ∈ ([(.dataLo 0, 0x00), (.dataLo 0x7F, 0x7F), (.dataHi 0, 0x80), (.dataHi 0x3F, 0xBF),
        (.rxByte 0x40, 0x40)] : List (Instr × Byte)),
      wireByte x.1 = some x.2 ∧ x.2.toNat ≤ 0xBF) ∧
    (∀ m ∈ [(0b0001 : Mask), 0b0010],
      (inFrame [] m false false).rxActive = true ∧
      66 < (inFrame [] m false false).params.rxCap) ∧
    { inFrame [] 1 false false with rxLen := 66 }.rxLen <
      { inFrame [] 1 false false with rxLen := 66 }.params.rxCap ∧
    State.reset.rxActive = false := by decide

theorem witness_DataByteOverflowIsLatched :
    wireByte (.dataHi 0x3F) = some 0xBF ∧ wireByte (.rxByte 0xBF) = some 0xBF ∧
    (0xBF : Byte).toNat ≤ 0xBF ∧
    { inFrame [] 1 false false with rxLen := 67 }.rxActive = true ∧
    { inFrame [] 1 false false with rxLen := 67 }.rxLen =
      { inFrame [] 1 false false with rxLen := 67 }.params.rxCap := by decide

/-- Each of the two bits differing alone. -/
theorem witness_TailMismatchDropsTheFrame :
    wireByte (.tail false true) = some 0xC1 ∧ wireByte (.rxByte 0xC1) = some 0xC1 ∧
    0xC0 ≤ (0xC1 : Byte).toNat ∧ (0xC1 : Byte).toNat ≤ 0xC3 ∧
    (inFrame [0, 0] 0 false false).rxActive = true ∧
    (0xC1 : Byte)[0] ≠ (inFrame [0, 0] 0 false false).rxHeadE ∧
    (inFrame [0, 0] 0 true true).rxActive = true ∧
    (0xC1 : Byte)[1] ≠ (inFrame [0, 0] 0 true true).rxHeadC := by decide

/-- One byte stored; and the wire Length 81, which is 65. -/
theorem witness_TailBadLengthDropsTheFrame :
    wireByte (.tail false false) = some 0xC0 ∧ wireByte (.rxByte 0xC0) = some 0xC0 ∧
    0xC0 ≤ (0xC0 : Byte).toNat ∧ (0xC0 : Byte).toNat ≤ 0xC3 ∧
    (inFrame [0] 0 false false).rxActive = true ∧ (inFrame [0] 0 false false).rxLen < 2 ∧
    (inFrame [0x81, 0] 0 false false).rxActive = true ∧
    (inFrame [0x81, 0] 0 false false).params.payloadCap <
      (unfold ((inFrame [0x81, 0] 0 false false).rxBuf.read 0)).toNat := by decide

/-- Five bytes needed of four; and one stored byte too few, one too many. -/
theorem witness_TailBadCountDropsTheFrame :
    wireByte (.tail true false) = some 0xC2 ∧ wireByte (.rxByte 0xC2) = some 0xC2 ∧
    0xC0 ≤ (0xC2 : Byte).toNat ∧ (0xC2 : Byte).toNat ≤ 0xC3 ∧
    (withCaps 4 86 (inFrame [2, 4, 1, 1] 0 true false)).rxActive = true ∧
    (withCaps 4 86 (inFrame [2, 4, 1, 1] 0 true false)).params.rxCap <
      2 + (unfold ((withCaps 4 86 (inFrame [2, 4, 1, 1] 0 true false)).rxBuf.read 0)).toNat +
        crcCount (0xC2 : Byte)[1] ∧
    (∀ bytes ∈ [[(1 : Byte), 4, 0x11], [1, 4, 0x11, 0x22, 0x33]],
      (inFrame bytes 0 true false).rxActive = true ∧
      (inFrame bytes 0 true false).params.strictLength = true ∧
      (inFrame bytes 0 true false).rxLen ≠
        2 + (unfold ((inFrame bytes 0 true false).rxBuf.read 0)).toNat +
          crcCount (0xC2 : Byte)[1]) := by decide

/-- 95 §2.4 R9: the check byte F5 where F4 is due. -/
theorem witness_TailBadCrcDropsTheFrame :
    wireByte (.tail true false) = some 0xC2 ∧ wireByte (.rxByte 0xC2) = some 0xC2 ∧
    0xC0 ≤ (0xC2 : Byte).toNat ∧ (0xC2 : Byte).toNat ≤ 0xC3 ∧ (0xC2 : Byte)[1] = true ∧
    let s := inFrame [0x02, 0x12, 0x11, 0x22, 0xF5] 0 true false
    s.rxActive = true ∧
    crcFn s.params (unfold (s.rxBuf.read 0) :: s.rxBuf.read 1 ::
        s.rxBuf.readBytes 2 (unfold (s.rxBuf.read 0)).toNat) ≠
      s.rxBuf.read (2 + (unfold (s.rxBuf.read 0)).toNat) := by decide +kernel

/-- The hypotheses of a good TAIL. -/
def GoodTail (b : Byte) (s : State) : Prop :=
  0xC0 ≤ b.toNat ∧ b.toNat ≤ 0xC3 ∧ s.rxActive = true ∧ b[1] = s.rxHeadC ∧ b[0] = s.rxHeadE ∧
  2 ≤ s.rxLen ∧ (unfold (s.rxBuf.read 0)).toNat ≤ s.params.payloadCap ∧
  2 + (unfold (s.rxBuf.read 0)).toNat + crcCount b[1] ≤ s.params.rxCap ∧
  (s.params.strictLength = true →
    s.rxLen = 2 + (unfold (s.rxBuf.read 0)).toNat + crcCount b[1]) ∧
  (b[1] = true →
    crcFn s.params (unfold (s.rxBuf.read 0) :: s.rxBuf.read 1 ::
        s.rxBuf.readBytes 2 (unfold (s.rxBuf.read 0)).toNat) =
      s.rxBuf.read (2 + (unfold (s.rxBuf.read 0)).toNat))

/-- With a check byte, on the empty stack; and the shortest frame, with `RequestReceived` on top,
with another event on top, and with the stack full. -/
theorem witness_GoodTailLatchesAndSignals :
    wireByte (.tail true false) = some 0xC2 ∧ wireByte (.rxByte 0xC2) = some 0xC2 ∧
    GoodTail 0xC2 (inFrame [0x02, 0x12, 0x11, 0x22, 0xF4] 0 true false) ∧
    wireByte (.tail false false) = some 0xC0 ∧
    (∀ codes ∈ [[(2 : EventCode), 1], [1, 2], [1, 2, 3, 4, 5, 6, 7]],
      GoodTail 0xC0
        { inFrame [0, 4] 0 false false with
          stk := (withEvents codes).stk, sp := (withEvents codes).sp }) ∧
    (withEvents [2, 1]).stk.read 2 = 1 ∧ (withEvents [1, 2]).stk.read 2 ≠ 1 ∧
    (withEvents [1, 2, 3, 4, 5, 6, 7]).sp =
      (withEvents [1, 2, 3, 4, 5, 6, 7]).params.evCap - 1 := by
  unfold GoodTail
  decide +kernel

theorem witness_TailAlwaysEndsTheFrame :
    wireByte (.tail true true) = some 0xC3 ∧ wireByte (.rxByte 0xC3) = some 0xC3 ∧
    0xC0 ≤ (0xC3 : Byte).toNat ∧ (0xC3 : Byte).toNat ≤ 0xC3 ∧
    (inFrame [] 5 false false).rxActive = true := by decide

theorem witness_OnlyHeadEntersAFrame :
    State.reset.rxActive = false ∧
    exec (.head true false) State.reset = .next (after (.head true false) State.reset) ∧
    (after (.head true false) State.reset).rxActive = true :=
  ⟨rfl, rfl, rfl⟩

/-- The rise, and the two falls. -/
theorem witness_PacketValidRisesAtTailFallsAtHead :
    (inFrame [0, 4] 0 false false).pktValid = false ∧
    (after (.tail false false) (inFrame [0, 4] 0 false false)).pktValid = true ∧
    packetState.pktValid = true ∧ (after (.head false false) packetState).pktValid = false ∧
    (after .reset packetState).pktValid = false := by decide

theorem packetState_inv : Inv packetState where
  legal := by constructor <;> decide
  rx := by constructor <;> first | decide | (unfold CellsBelow; decide)
  tx := by constructor <;> first | decide | (unfold CellsBelow; decide)
  ev := by
    refine ⟨by decide, by unfold CellsBelow; decide, by decide, by decide, fun i h => ?_, fun i => ?_⟩
    · have h1 : packetState.sp = 1 := by decide
      obtain rfl : i = 0 := by omega
      decide
    · have h1 : packetState.stk = [(1, 1)] := by decide
      rw [h1]
      simp only [Slots.read, readCell, idle]
      split <;> decide

theorem witness_PacketStableUntilHead :
    Inv packetState ∧ packetState.pktValid = true ∧
    exec (.dataLo 1) packetState = .next (after (.dataLo 1) packetState) ∧
    bringsHead (.dataLo 1) = false ∧ Instr.dataLo 1 ≠ .reset :=
  ⟨packetState_inv, by decide, rfl, by decide, by decide⟩

/-- The smallest refused command, and the shortest refused payload. -/
theorem witness_EncodeChecksItsArguments :
    (0xC0 : Byte).extractLsb' 6 2 = 0b11 ∧ (0xBF : Byte).extractLsb' 6 2 ≠ 0b11 ∧
    State.reset.params.payloadCap < (List.replicate 65 (0 : Byte)).length := by decide

/-- 95 E6 with TX_CAP lowered to 10: 11 bytes. -/
theorem witness_EncodeRefusesAFrameOverCapacity :
    (0x04 : Byte).extractLsb' 6 2 ≠ 0b11 ∧
    [(0xC0 : Byte), 0xC1, 0xC2, 0xC3, 0xC4].length ≤ (withCaps 67 10 State.reset).params.payloadCap ∧
    (withCaps 67 10 State.reset).params.txCap <
      (wireFrame (withCaps 67 10 State.reset).params 0x04 false false
        [0xC0, 0xC1, 0xC2, 0xC3, 0xC4]).length := by decide

/-- The same frame, TX_CAP exactly enough. -/
theorem witness_EncodeStoresTheFrame :
    (0xBF : Byte).extractLsb' 6 2 ≠ 0b11 ∧
    [(0xC0 : Byte), 0xC1, 0xC2, 0xC3, 0xC4].length ≤ (withCaps 67 11 State.reset).params.payloadCap ∧
    4 + ([(0xC0 : Byte), 0xC1, 0xC2, 0xC3, 0xC4].length + crcCount false) +
        esc (runOf (withCaps 67 11 State.reset).params 0xBF false [0xC0, 0xC1, 0xC2, 0xC3, 0xC4]) =
      (withCaps 67 11 State.reset).params.txCap := by decide

theorem witness_DefaultTxCapFitsEveryLegalFrame :
    (0xBF : Byte).extractLsb' 6 2 ≠ 0b11 ∧
    (List.replicate 64 (0xC0 : Byte)).length ≤ State.reset.params.payloadCap ∧
    defaultTxCap State.reset.params.payloadCap ≤ State.reset.params.txCap := by decide

theorem witness_EncodeReadsNoState :
    State.reset.params = packetState.params ∧
    exec (.encode 4 false true [0xC0]) State.reset =
      .next (after (.encode 4 false true [0xC0]) State.reset) ∧
    exec (.encode 4 false true [0xC0]) packetState =
      .next (after (.encode 4 false true [0xC0]) packetState) ∧
    (after (.encode 4 false true [0xC0]) State.reset).result = .encode .ok :=
  ⟨by decide, rfl, rfl, by decide +kernel⟩

theorem witness_StuffedControlBytesAreOddEscapes :
    0xD1 ∈ stuff [0x40, 0xC0] ∧ isControl 0xD1 = true := by decide

theorem witness_StuffingAddsOneByteAWindow :
    ∀ b ∈ [(0x00 : Byte), 0xBF], collides b = false := by decide

/-- A run that fills the buffer to its end. -/
theorem witness_DestuffingInvertsStuffing :
    (withCaps 7 86 (inFrame [5, 4] 0 false false)).rxActive = true ∧
    (withCaps 7 86 (inFrame [5, 4] 0 false false)).rxMask = 0 ∧
    (withCaps 7 86 (inFrame [5, 4] 0 false false)).rxLen + [(0xC0 : Byte), 1, 2, 3, 0xFF].length ≤
      (withCaps 7 86 (inFrame [5, 4] 0 false false)).params.rxCap := by decide

/-- 95 E5's frame, fed to a block in the middle of another frame. -/
theorem witness_EncodedFrameRoundTrips :
    State.reset.params.Legal ∧ State.reset.params.payloadCap + 3 ≤ State.reset.params.rxCap ∧
    (inFrame [1, 2] 5 true true).params = State.reset.params ∧
    exec (.encode 0x04 true false [1, 0xC0, 2, 0xFF, 3, 0xC1]) State.reset =
      .next (after (.encode 0x04 true false [1, 0xC0, 2, 0xFF, 3, 0xC1]) State.reset) ∧
    (after (.encode 0x04 true false [1, 0xC0, 2, 0xFF, 3, 0xC1]) State.reset).result =
      .encode .ok :=
  ⟨packetState_inv.legal, by decide, rfl, rfl, by decide⟩

/-- Full; duplicate of the top; a new code with one slot left; and Idle on the empty stack. -/
theorem witness_EvPushTestsThenStores :
    (∀ codes ∈ [[], [(1 : EventCode), 2], [1, 2, 3, 4, 5, 6], [1, 2, 3, 4, 5, 6, 7]],
      (withEvents codes).sp ≤ (withEvents codes).params.evCap - 1) ∧
    (withEvents [1, 2, 3, 4, 5, 6, 7]).sp =
      (withEvents [1, 2, 3, 4, 5, 6, 7]).params.evCap - 1 ∧
    (withEvents [1, 2]).stk.read (withEvents [1, 2]).sp = 2 ∧
    (withEvents [1, 2, 3, 4, 5, 6]).stk.read (withEvents [1, 2, 3, 4, 5, 6]).sp ≠ 7 ∧
    (withEvents []).stk.read (withEvents []).sp = 0 := by decide

theorem witness_PopAfterStoredPush :
    exec (.evPush 7) (withEvents [1, 2]) = .next (after (.evPush 7) (withEvents [1, 2])) ∧
    (after (.evPush 7) (withEvents [1, 2])).result = .push .stored :=
  ⟨rfl, by decide⟩

/-- Room left after the first push, and none left. -/
theorem witness_SecondEqualPushStoresNothing :
    (withEvents [1]).sp < (withEvents [1]).params.evCap - 1 ∧
    exec (.evPush 7) (withEvents [1]) = .next (after (.evPush 7) (withEvents [1])) ∧
    (after (.evPush 7) (withEvents [1])).sp ≠
      (after (.evPush 7) (withEvents [1])).params.evCap - 1 ∧
    (withEvents [1, 2, 3, 4, 5, 6]).sp < (withEvents [1, 2, 3, 4, 5, 6]).params.evCap - 1 ∧
    exec (.evPush 7) (withEvents [1, 2, 3, 4, 5, 6]) =
      .next (after (.evPush 7) (withEvents [1, 2, 3, 4, 5, 6])) ∧
    (after (.evPush 7) (withEvents [1, 2, 3, 4, 5, 6])).sp =
      (after (.evPush 7) (withEvents [1, 2, 3, 4, 5, 6])).params.evCap - 1 :=
  ⟨by decide, rfl, by decide, by decide, rfl, by decide⟩

theorem witness_DriverDrainsNewestFirst :
    ∀ k, 1 ≤ k → k ≤ (withEvents [2, 1]).sp → (withEvents [2, 1]).stk.read k ≠ idle := by
  have h : ∀ k < 3, 1 ≤ k → (withEvents [2, 1]).stk.read k ≠ idle := by decide
  have h2 : (withEvents [2, 1]).sp = 2 := by decide
  intro k h1 h3
  exact h k (by omega) h1

theorem witness_SlotZeroIsNeverWritten :
    exec (.evPush 7) State.reset = .next (after (.evPush 7) State.reset) ∧
    exec .reset packetState = .next (after .reset packetState) :=
  ⟨rfl, rfl⟩

theorem witness_ReservedSelectsDoNothing :
    Instr.opReserved6 = .opReserved6 ∧ Instr.opReserved7 = .opReserved7 := ⟨rfl, rfl⟩

/-- Both flags set, before an operation that keeps them. -/
theorem witness_FlagsAreSticky :
    let s := { packetState with errRxOvf := true, errEvFull := true }
    exec .evPop s = .next (after .evPop s) ∧ Instr.evPop ≠ .errClear ∧ Instr.evPop ≠ .reset ∧
      s.errRxOvf = true ∧ s.errEvFull = true :=
  ⟨rfl, by decide, by decide, rfl, rfl⟩

/-- The receive overflow; the full stack, met by EV_PUSH and by a TAIL. -/
theorem witness_FlagsRiseOnlyAtTheirConditions :
    { inFrame [] 1 false false with rxLen := 67 }.errRxOvf = false ∧
    (after (.dataHi 1) { inFrame [] 1 false false with rxLen := 67 }).errRxOvf = true ∧
    (withEvents [1, 2, 3, 4, 5, 6, 7]).errEvFull = false ∧
    (after (.evPush 7) (withEvents [1, 2, 3, 4, 5, 6, 7])).errEvFull = true ∧
    { inFrame [0, 4] 0 false false with sp := 7 }.errEvFull = false ∧
    (after (.tail false false) { inFrame [0, 4] 0 false false with sp := 7 }).errEvFull = true := by
  decide

theorem witness_FlagsAreNeverRead :
    exec (.tail false false) (inFrame [0, 4] 0 false false) =
      .next (after (.tail false false) (inFrame [0, 4] 0 false false)) := rfl

/-- Slots that differ above `sp` alone. -/
theorem witness_StaleSlotsAreNeverRead :
    (∀ k, k ≤ (withEvents [1, 2]).sp →
      Slots.read [(1, 1), (2, 2), (3, 9)] k = (withEvents [1, 2]).stk.read k) ∧
    exec (.evPush 7) (withEvents [1, 2]) = .next (after (.evPush 7) (withEvents [1, 2])) := by
  have h : ∀ k < 3, Slots.read [(1, 1), (2, 2), (3, 9)] k = (withEvents [1, 2]).stk.read k := by
    decide
  have h2 : (withEvents [1, 2]).sp = 2 := by decide
  exact ⟨fun k hk => h k (by omega), rfl⟩

/-- Bytes that differ at and above `tx_len` alone. -/
theorem witness_StaleTransmitBytesAreNeverRead :
    let s := { State.reset with txBuf := Memory.writeBytes [] 0 [0xC4, 0, 4, 0xC0], txLen := 4 }
    (∀ k, k < s.txLen →
      Memory.read (Memory.writeBytes [] 0 [0xC4, 0, 4, 0xC0, 0xFF]) k = s.txBuf.read k) ∧
    exec .errClear s = .next (after .errClear s) := by
  have h : ∀ k < 4, Memory.read (Memory.writeBytes [] 0 [0xC4, 0, 4, 0xC0, 0xFF]) k =
      Memory.read (Memory.writeBytes [] 0 [0xC4, 0, 4, 0xC0]) k := by decide
  exact ⟨fun k hk => h k hk, rfl⟩

/-- An operation for each clause. -/
theorem witness_OperationsWriteOnlyTheirColumns :
    exec (.dataLo 1) packetState = .next (after (.dataLo 1) packetState) ∧
    Instr.dataLo 1 ≠ .reset ∧ bringsTail (.dataLo 1) = false ∧
    exec (.evPush 7) packetState = .next (after (.evPush 7) packetState) ∧
    Instr.evPush 7 ≠ .reset ∧ wireByte (.evPush 7) = none :=
  ⟨rfl, by decide, by decide, rfl, by decide, rfl⟩

theorem witness_ParametersNeverChange :
    exec .reset packetState = .next (after .reset packetState) := rfl

theorem witness_RestoreUndoesClear : collides 0xC0 = true ∧ collides 0xFF = true := by decide

/-- The longest payload and the widest code the operands carry. -/
theorem witness_DecodeInvertsEncode :
    wellFormed Params.default (.encode 0xFF true true (List.replicate 255 0xFF)) = true ∧
    wellFormed Params.default (.evPush 255) = true ∧
    wellFormed { Params.default with evWidth := 9 } (.evPush 511) = true := by decide +kernel

theorem witness_DecodedOperationsAreWellFormed :
    decode Params.default (.op 0b010 [0x04, 0x03, 0x01, 0xFF]) =
      .ok (.encode 0x04 true true [0xFF]) ∧
    decode { Params.default with evWidth := 9 } (.op 0b011 [0xFF, 0x01]) = .ok (.evPush 511) := by
  decide

theorem witness_PendingAnnouncesTheWireLength :
    State.reset.params.Legal ∧
    exec (.encode 0x06 false false [0xDE, 0xAD, 0xBE, 0xEF]) State.reset =
      .next (after (.encode 0x06 false false [0xDE, 0xAD, 0xBE, 0xEF]) State.reset) ∧
    (after (.encode 0x06 false false [0xDE, 0xAD, 0xBE, 0xEF]) State.reset).result = .encode .ok :=
  ⟨packetState_inv.legal, rfl, by decide⟩

theorem witness_StepAppliesTheDecodedOperation :
    (setPending [.wire 0xC6, .op 0b100 []] State.reset).pending = [.wire 0xC6, .op 0b100 []] ∧
    decode (setPending [.wire 0xC6, .op 0b100 []] State.reset).params (.wire 0xC6) =
      .ok (.head true false) :=
  ⟨rfl, by decide⟩

theorem witness_IdleStepChangesNothing : State.reset.pending = [] := by decide

theorem witness_WellFormedRequestsComplete :
    wellFormed State.reset.params (.encode 4 false true [0xC0]) = true ∧
    (setPending [encode State.reset.params (.encode 4 false true [0xC0])] State.reset).pending =
      [encode (setPending [encode State.reset.params (.encode 4 false true [0xC0])]
        State.reset).params (.encode 4 false true [0xC0])] :=
  ⟨by decide, rfl⟩

theorem witness_StepKeepsTheInvariants :
    Inv packetState ∧
    step packetState = .next (after (.head true false) (setPending [] packetState)) :=
  ⟨packetState_inv, rfl⟩

/-- Pushed before the first pop, between two pops, and onto the emptied stack. -/
theorem witness_EventPushedMeanwhileIsDeliveredNext :
    (∀ j, 1 ≤ j → j ≤ (withEvents [2, 1]).sp → (withEvents [2, 1]).stk.read j ≠ idle) ∧
    (9 : EventCode) ≠ idle ∧
    ∀ k ∈ [0, 1, 2], k ≤ (withEvents [2, 1]).sp ∧
      (withEvents [2, 1]).stk.read ((withEvents [2, 1]).sp - k) ≠ 9 ∧
      (withEvents [2, 1]).sp - k < (withEvents [2, 1]).params.evCap - 1 :=
  ⟨witness_DriverDrainsNewestFirst, by decide, by decide⟩

/-- The longest payload, under the default capacities. -/
theorem witness_BuildRequestAnswersTheWireBytes :
    (List.replicate 64 (0xC0 : Byte)).length ≤ State.reset.params.payloadCap ∧
    defaultTxCap State.reset.params.payloadCap ≤ State.reset.params.txCap := by decide

/-- A request served with a payload, and one the handler fails. -/
theorem witness_AnnouncedResponseIsRetrieved :
    State.reset.params.Legal ∧ State.reset.params.payloadCap + 3 ≤ State.reset.params.rxCap ∧
    (inFrame [1, 2] 5 true true).params = State.reset.params ∧
    (Command.unpack 0x04).status = .request ∧ (Command.unpack 0x0C).status = .request ∧
    (∃ t, (dispatchPacket readTable false false false false
      ⟨0x04, false, false, [0x00, 0x10, 0x00, 0x20]⟩).run [] State.reset =
        .next (t, .announced ⟨[0xC4, 0x04, 0x06, 0xD9, 0x5E, 0xAD, 0xBE, 0x6F, 0xC0],
          [0xC4, 0x01, 0x05, 0x09, 0xC0]⟩)) ∧
    (∃ t, (dispatchPacket readTable false false false false
      ⟨0x0C, false, false, [0x00, 0x10, 0x00, 0x20]⟩).run [] State.reset =
        .next (t, .announced ⟨[0xC4, 0x00, 0x0F, 0xC0], [0xC4, 0x01, 0x0D, 0x04, 0xC0]⟩)) ∧
    readTable 0 ⟨0x04, false, false, [0x00, 0x10, 0x00, 0x20]⟩ = some [0xDE, 0xAD, 0xBE, 0xEF] ∧
    readTable 0 ⟨0x0C, false, false, [0x00, 0x10, 0x00, 0x20]⟩ = none :=
  ⟨packetState_inv.legal, by decide, rfl, by decide, by decide, next_of_answerOf (by decide),
    next_of_answerOf (by decide), by decide, by decide⟩

/-- Exactly four bytes of view, exactly one, a populated and an unpopulated service. -/
theorem witness_ReadServiceAnswersTheBytes :
    let services : Services :=
      { readServices with resolve := fun a => if a = 0x20001000 then [1, 2, 3, 4] else [5] }
    services.resolve (if false = services.localOrder
      then (0x20 : Byte) ++ (0x00 : Byte) ++ (0x10 : Byte) ++ (0x00 : Byte)
      else (0x00 : Byte) ++ (0x10 : Byte) ++ (0x00 : Byte) ++ (0x20 : Byte)) = [1, 2, 3, 4] ∧
    services.resolve 0 = [5] ∧
    4 ≤ ([1, 2, 3, 4] : List Byte).length ∧ 1 ≤ ([5] : List Byte).length ∧
    (Command.unpack 0x04).subfunction = 1 ∧ (Command.unpack 0x08).subfunction = 2 ∧
    (Command.unpack 0x00).subfunction = 0 ∧ (Command.unpack 0x0C).subfunction = 3 ∧
    (3 : BitVec 3) ≠ 0 ∧ services.others 3 = some (fun p => some p.payload) ∧
    (5 : BitVec 3) ≠ 0 ∧ services.others 5 = none :=
  ⟨by decide, by decide, by decide, by decide, by decide, by decide, by decide, by decide,
    by decide, rfl, by decide, rfl⟩

end Sys2Proof.Tests
end

/-! ## 00_scope.md: the decoder's operations, parameters, results, unassigned select codes -/

namespace Sys2Proof

/-! ### Decoded operations are well-formed (00 R8, 43 R105) -/

/-- A wire byte's row holds no operand beyond its free bits, so nothing bounds it but its type. -/
theorem wellFormed_decodeWire (p : Params) (b : Byte) : wellFormed p (decodeWire b) = true := by
  unfold decodeWire
  split_ifs <;> rfl

theorem decodeBare_ok {i j : Instr} {operands : List Byte} (h : decodeBare i operands = .ok j) :
    j = i := by
  cases operands with
  | nil => cases h; rfl
  | cons b rest => cases h

theorem decodeRxByte_ok {operands : List Byte} {i : Instr} (h : decodeRxByte operands = .ok i) :
    ∃ b, i = .rxByte b := by
  unfold decodeRxByte at h
  split at h
  · cases h; exact ⟨_, rfl⟩
  · cases h

/-- ENCODE's payload has the length its byte L says. -/
theorem decodeEncode_ok {operands : List Byte} {i : Instr} (h : decodeEncode operands = .ok i) :
    ∃ cmd e c payload, ∃ len : Byte, i = .encode cmd e c payload ∧ payload.length = len.toNat := by
  unfold decodeEncode at h
  split at h
  · split_ifs at h with hflags hlen
    cases h
    exact ⟨_, _, _, _, _, rfl, not_not.mp hlen⟩
  · cases h

theorem decodeEvPush_ok {p : Params} {operands : List Byte} {i : Instr}
    (h : decodeEvPush p operands = .ok i) : ∃ code, i = .evPush code ∧ code < 2 ^ p.evWidth := by
  unfold decodeEvPush at h
  split_ifs at h with hcount hwidth
  cases h
  exact ⟨_, rfl, hwidth⟩

theorem wellFormed_of_decodeSelect {p : Params} {select : BitVec 3} {operands : List Byte}
    {i : Instr} (h : decodeSelect p select operands = .ok i) : wellFormed p i = true := by
  obtain rfl | rfl | rfl | rfl | rfl | rfl | rfl | rfl := select_cases select
  · rw [decodeBare_ok h]; rfl
  · obtain ⟨b, rfl⟩ := decodeRxByte_ok h
    rfl
  · obtain ⟨cmd, e, c, payload, len, rfl, hlen⟩ := decodeEncode_ok h
    have hbyte : payload.length < 256 := hlen ▸ len.isLt
    exact decide_eq_true hbyte
  · obtain ⟨code, rfl, hwidth⟩ := decodeEvPush_ok h
    exact decide_eq_true hwidth
  · rw [decodeBare_ok h]; rfl
  · rw [decodeBare_ok h]; rfl
  · cases h; rfl
  · cases h; rfl

/-- Settles O48: a wire byte's row is bounded by type, and each select code's operands are checked
by its own decoder. -/
theorem decodedOperationsAreWellFormed : Obligations.DecodedOperationsAreWellFormed := by
  intro p r i h
  cases r with
  | wire b => cases h; exact wellFormed_decodeWire p b
  | op select operands => exact wellFormed_of_decodeSelect h

end Sys2Proof

namespace Sys2Proof.Machine

/-! ### Parameters and pending operations (00 R6, 70 R157, R158) -/

@[simp] theorem receiveHead_params_pending (c e : Bool) (s : State) :
    (receiveHead c e s).params = s.params ∧ (receiveHead c e s).pending = s.pending := ⟨rfl, rfl⟩

@[simp] theorem acceptFrame_params_pending (c e : Bool) (s : State) :
    (acceptFrame c e s).params = s.params ∧ (acceptFrame c e s).pending = s.pending := by
  simp [acceptFrame]

@[simp] theorem receiveTail_params_pending (c e : Bool) (s : State) :
    (receiveTail c e s).params = s.params ∧ (receiveTail c e s).pending = s.pending := by
  obtain ⟨-, h⟩ | ⟨-, -, h⟩ | ⟨-, -, h⟩ := receiveTail_spec c e s <;> simp [h]

@[simp] theorem receiveEscape_params_pending (m : Mask) (s : State) :
    (receiveEscape m s).params = s.params ∧ (receiveEscape m s).pending = s.pending := by
  obtain ⟨-, h⟩ | ⟨-, h⟩ := receiveEscape_spec m s <;> simp [h]

@[simp] theorem receiveUnknown_params_pending (s : State) :
    (receiveUnknown s).params = s.params ∧ (receiveUnknown s).pending = s.pending := by
  obtain ⟨-, h⟩ | ⟨-, h⟩ := receiveUnknown_spec s <;> simp [h]

@[simp] theorem receiveData_params_pending (b : Byte) (s : State) :
    (receiveData b s).params = s.params ∧ (receiveData b s).pending = s.pending := by
  obtain ⟨-, h⟩ | ⟨-, -, h⟩ | ⟨-, -, h⟩ := receiveData_spec b s <;> simp [h]

@[simp] theorem receiveByte_params_pending (b : Byte) (s : State) :
    (receiveByte b s).params = s.params ∧ (receiveByte b s).pending = s.pending := by
  obtain ⟨c, e, -, h⟩ | ⟨c, e, -, h⟩ | ⟨m, -, h⟩ | ⟨-, h⟩ | ⟨-, h⟩ := receiveByte_spec b s <;>
    simp [h]

@[simp] theorem encodeFrame_pending (cmd : Byte) (e c : Bool) (payload : List Byte) (s : State) :
    (encodeFrame cmd e c payload s).pending = s.pending := by
  obtain ⟨-, h⟩ | ⟨-, h⟩ := encodeFrame_spec cmd e c payload s <;> simp [h]

@[simp] theorem resetBlock_params (s : State) : (resetBlock s).params = s.params := rfl

@[simp] theorem resetBlock_pending (s : State) : (resetBlock s).pending = s.pending := rfl

/-- Every operation records its result over an effect that keeps the parameters and the operations
to come; of the effects only RESET's writes the whole block. -/
theorem exec_keeps_params_pending (i : Instr) (s : State) :
    ∃ r u, exec i s = .next (setResult r u) ∧ u.params = s.params ∧ u.pending = s.pending := by
  obtain ⟨b, -, h⟩ | ⟨-, h⟩ | ⟨cmd, e, c, payload, -, h⟩ | ⟨code, -, h⟩ | ⟨-, h⟩ | ⟨-, h⟩ | ⟨-, h⟩ :=
    exec_cases i s
  · exact ⟨_, _, h, receiveByte_params_pending b s⟩
  · exact ⟨_, _, h, resetBlock_params s, resetBlock_pending s⟩
  · exact ⟨_, _, h, encodeFrame_params cmd e c payload s, encodeFrame_pending cmd e c payload s⟩
  · exact ⟨_, _, h, pushEvent_params code s, pushEvent_pending code s⟩
  · exact ⟨_, _, h, popEvent_params s, popEvent_pending s⟩
  · exact ⟨_, _, h, clearErrors_params s, clearErrors_pending s⟩
  · exact ⟨_, _, h, rfl, rfl⟩

/-- Settles O42: every operation's effect keeps both fields, and so does recording its result. -/
theorem parametersNeverChange : Obligations.ParametersNeverChange := by
  intro i s t h
  obtain ⟨r, u, hexec, hparams, hpending⟩ := exec_keeps_params_pending i s
  cases hexec.symm.trans h
  exact ⟨hparams, hpending⟩

/-! ### The unassigned select codes (00 R8, 60 R137) -/

/-- What an operation returns is no element of the block (log entry 4). -/
theorem sameBlock_setResult (r : Result) (s : State) : SameBlock s (setResult r s) where
  rx := ⟨fun _ => rfl, rfl, rfl, rfl, rfl, rfl⟩
  packet := ⟨rfl, rfl, rfl, rfl, rfl⟩
  tx := ⟨fun _ => rfl, rfl⟩
  events := ⟨fun _ => rfl, rfl⟩
  errors := ⟨rfl, rfl⟩

/-- Settles O34: both codes record that there is no result, and nothing else. -/
theorem reservedSelectsDoNothing : Obligations.ReservedSelectsDoNothing := by
  rintro i s (rfl | rfl) <;>
    exact ⟨setResult .none s, rfl, rfl, sameBlock_setResult .none s⟩

/-! ### Results (00 R8, 30 R61) -/

/-- Settles O35: the three operations that return anything record a result of their own kind, and
every other one records none. -/
theorem onlyThreeOperationsReturn : Obligations.OnlyThreeOperationsReturn := by
  intro i s
  cases i with
  | encode cmd e c payload =>
    exact ⟨setResult (.encode (encodeResult s.params cmd e c payload))
      (encodeFrame cmd e c payload s), rfl, by simp⟩
  | evPush code => exact ⟨setResult (.push (pushResult code s)) (pushEvent code s), rfl, by simp⟩
  | evPop => exact ⟨setResult (.event (popResult s)) (popEvent s), rfl, by simp⟩
  | _ => exact ⟨_, rfl, by simp⟩

end Sys2Proof.Machine

namespace Sys2Proof.Machine

/-! ## 10_state.md: what each operation leaves alone, the invariants, and what no operation reads -/

/-! ### The sides of the state an operation keeps (10 R29)

One notion per side, with the parameters beside it: it carries the side's invariants from a state to
the next, and gives the statements' `SameRx`, `SamePacket`, `SameTx` and `SameEvents`. -/

/-- The receive side, the packet registers and the parameters are as before. -/
structure RxKept (s t : State) : Prop where
  params : t.params = s.params
  buf : t.rxBuf = s.rxBuf
  len : t.rxLen = s.rxLen
  mask : t.rxMask = s.rxMask
  active : t.rxActive = s.rxActive
  headC : t.rxHeadC = s.rxHeadC
  headE : t.rxHeadE = s.rxHeadE
  valid : t.pktValid = s.pktValid
  cmd : t.pktCmd = s.pktCmd
  pktLen : t.pktLen = s.pktLen
  order : t.pktOrder = s.pktOrder
  crc : t.pktCrc = s.pktCrc

/-- The transmit side and the parameters are as before. -/
structure TxKept (s t : State) : Prop where
  params : t.params = s.params
  buf : t.txBuf = s.txBuf
  len : t.txLen = s.txLen

/-- The event stack and the parameters are as before. -/
structure EvKept (s t : State) : Prop where
  params : t.params = s.params
  stk : t.stk = s.stk
  sp : t.sp = s.sp

theorem RxKept.refl (s : State) : RxKept s s := by constructor <;> rfl

theorem TxKept.refl (s : State) : TxKept s s := ⟨rfl, rfl, rfl⟩

theorem EvKept.refl (s : State) : EvKept s s := ⟨rfl, rfl, rfl⟩

section Kept
variable {s t : State}

theorem RxKept.sameRx (k : RxKept s t) : SameRx s t :=
  ⟨fun i => by rw [k.buf], k.len, k.mask, k.active, k.headC, k.headE⟩

theorem RxKept.samePacket (k : RxKept s t) : SamePacket s t :=
  ⟨k.valid, k.cmd, k.pktLen, k.order, k.crc⟩

theorem TxKept.sameTx (k : TxKept s t) : SameTx s t := ⟨fun i => by rw [k.buf], k.len⟩

theorem EvKept.sameEvents (k : EvKept s t) : SameEvents s t := ⟨fun i => by rw [k.stk], k.sp⟩

theorem RxKept.rxInv (k : RxKept s t) (h : RxInv s) : RxInv t := by
  obtain ⟨hparams, hbuf, hlen, hmask, hactive, -, -, hvalid, hcmd, hpktLen, -, hcrc⟩ := k
  cases s; cases t
  subst hparams hbuf hlen hmask hactive hvalid hcmd hpktLen hcrc
  exact { h with }

theorem TxKept.txInv (k : TxKept s t) (h : TxInv s) : TxInv t := by
  obtain ⟨hparams, hbuf, hlen⟩ := k
  cases s; cases t
  subst hparams hbuf hlen
  exact { h with }

theorem EvKept.evInv (k : EvKept s t) (h : EvInv s) : EvInv t := by
  obtain ⟨hparams, hstk, hsp⟩ := k
  cases s; cases t
  subst hparams hstk hsp
  exact { h with }

end Kept

/-! What each effect keeps. -/

theorem pushEvent_rxKept (code : EventCode) (s : State) : RxKept s (pushEvent code s) := by
  constructor <;> simp

theorem pushEvent_txKept (code : EventCode) (s : State) : TxKept s (pushEvent code s) := by
  constructor <;> simp

theorem popEvent_rxKept (s : State) : RxKept s (popEvent s) := by
  constructor <;> simp

theorem popEvent_txKept (s : State) : TxKept s (popEvent s) := by
  constructor <;> simp

theorem encodeFrame_rxKept (cmd : Byte) (e c : Bool) (payload : List Byte) (s : State) :
    RxKept s (encodeFrame cmd e c payload s) := by
  obtain ⟨-, h⟩ | ⟨-, h⟩ := encodeFrame_spec cmd e c payload s
  · rw [h]; constructor <;> rfl
  · rw [h]; exact .refl s

theorem encodeFrame_evKept (cmd : Byte) (e c : Bool) (payload : List Byte) (s : State) :
    EvKept s (encodeFrame cmd e c payload s) := by
  obtain ⟨-, h⟩ | ⟨-, h⟩ := encodeFrame_spec cmd e c payload s
  · rw [h]; exact ⟨rfl, rfl, rfl⟩
  · rw [h]; exact .refl s

theorem receiveHead_keeps (c e : Bool) (s : State) :
    TxKept s (receiveHead c e s) ∧ EvKept s (receiveHead c e s) :=
  ⟨⟨rfl, rfl, rfl⟩, ⟨rfl, rfl, rfl⟩⟩

theorem receiveEscape_keeps (m : Mask) (s : State) :
    TxKept s (receiveEscape m s) ∧ EvKept s (receiveEscape m s) := by
  obtain ⟨-, h⟩ | ⟨-, h⟩ := receiveEscape_spec m s <;> rw [h] <;>
    exact ⟨⟨rfl, rfl, rfl⟩, ⟨rfl, rfl, rfl⟩⟩

theorem receiveUnknown_keeps (s : State) :
    TxKept s (receiveUnknown s) ∧ EvKept s (receiveUnknown s) := by
  obtain ⟨-, h⟩ | ⟨-, h⟩ := receiveUnknown_spec s <;> rw [h] <;>
    exact ⟨⟨rfl, rfl, rfl⟩, ⟨rfl, rfl, rfl⟩⟩

theorem receiveData_keeps (b : Byte) (s : State) :
    TxKept s (receiveData b s) ∧ EvKept s (receiveData b s) := by
  obtain ⟨-, h⟩ | ⟨-, -, h⟩ | ⟨-, -, h⟩ := receiveData_spec b s <;> rw [h] <;>
    exact ⟨⟨rfl, rfl, rfl⟩, ⟨rfl, rfl, rfl⟩⟩

/-- A TAIL leaves the event stack alone, or ends in a push of `RequestReceived` on the same stack
(42 R101). -/
theorem receiveTail_evKept_or_push (c e : Bool) (s : State) :
    EvKept s (receiveTail c e s) ∨
      ∃ u, EvKept s u ∧ receiveTail c e s = pushEvent requestReceived u := by
  obtain ⟨-, h⟩ | ⟨-, -, h⟩ | ⟨-, -, h⟩ := receiveTail_spec c e s
  · rw [h]; exact .inl (.refl s)
  · refine .inr ⟨_, ?_, h⟩
    exact ⟨rfl, rfl, rfl⟩
  · rw [h]; exact .inl ⟨rfl, rfl, rfl⟩

theorem acceptFrame_txKept (c e : Bool) (s : State) :
    TxKept s (acceptFrame c e (closeFrame s)) := by
  constructor <;> simp [acceptFrame]

theorem receiveTail_txKept (c e : Bool) (s : State) : TxKept s (receiveTail c e s) := by
  obtain ⟨-, h⟩ | ⟨-, -, h⟩ | ⟨-, -, h⟩ := receiveTail_spec c e s <;> rw [h]
  · exact .refl s
  · exact acceptFrame_txKept c e s
  · exact ⟨rfl, rfl, rfl⟩

/-- No byte from the wire touches the transmit side. -/
theorem receiveByte_txKept (b : Byte) (s : State) : TxKept s (receiveByte b s) := by
  obtain ⟨-, h⟩ | ⟨-, -, h⟩ | ⟨-, -, h⟩ | ⟨-, -, h⟩ | ⟨-, h⟩ := receiveByte_cases b s <;> rw [h]
  · exact (receiveData_keeps b s).1
  · exact receiveTail_txKept _ _ s
  · exact (receiveHead_keeps _ _ s).1
  · exact (receiveEscape_keeps _ s).1
  · exact (receiveUnknown_keeps s).1

/-- Of the bytes from the wire, only a TAIL may push. -/
theorem receiveByte_evKept_or_push (b : Byte) (s : State) :
    EvKept s (receiveByte b s) ∨
      (0xC0 ≤ b.toNat ∧ b.toNat ≤ 0xC3) ∧
        ∃ u, EvKept s u ∧ receiveByte b s = pushEvent requestReceived u := by
  obtain ⟨-, h⟩ | ⟨hlo, hhi, h⟩ | ⟨-, -, h⟩ | ⟨-, -, h⟩ | ⟨-, h⟩ := receiveByte_cases b s <;> rw [h]
  · exact .inl (receiveData_keeps b s).2
  · exact (receiveTail_evKept_or_push _ _ s).imp id fun hpush => ⟨⟨hlo, hhi⟩, hpush⟩
  · exact .inl (receiveHead_keeps _ _ s).2
  · exact .inl (receiveEscape_keeps _ s).2
  · exact .inl (receiveUnknown_keeps s).2

/-! ### What an operation's next state is -/

/-- Every next state that an operation answers is its effect with the result recorded. -/
theorem exec_inversion {i : Instr} {s t : State} (h : exec i s = .next t) :
    (∃ b, wireByte i = some b ∧ t = setResult .none (receiveByte b s)) ∨
    (i = .reset ∧ t = setResult .none (resetBlock s)) ∨
    (∃ cmd e c payload, i = .encode cmd e c payload ∧
      t = setResult (.encode (encodeResult s.params cmd e c payload))
        (encodeFrame cmd e c payload s)) ∨
    (∃ code, i = .evPush code ∧ t = setResult (.push (pushResult code s)) (pushEvent code s)) ∨
    (i = .evPop ∧ t = setResult (.event (popResult s)) (popEvent s)) ∨
    (i = .errClear ∧ t = setResult .none (clearErrors s)) ∨
    ((i = .opReserved6 ∨ i = .opReserved7) ∧ t = setResult .none s) := by
  have hnext {u : State} (hu : exec i s = .next u) : t = u := by cases hu.symm.trans h; rfl
  exact (exec_cases i s).imp (fun ⟨b, hb, hu⟩ => ⟨b, hb, hnext hu⟩) <|
    .imp (.imp_right hnext) <|
    .imp (fun ⟨cmd, e, c, payload, hi, hu⟩ => ⟨cmd, e, c, payload, hi, hnext hu⟩) <|
    .imp (fun ⟨code, hi, hu⟩ => ⟨code, hi, hnext hu⟩) <|
    .imp (.imp_right hnext) <| .imp (.imp_right hnext) (.imp_right hnext)

/-! ### Written only by their operations (10 R18, R22, R23, R29) -/

section Kept
variable {s t : State} (r : Result)

/-! What an operation returns is no part of a side. -/

theorem RxKept.setResult (k : RxKept s t) : RxKept s (setResult r t) := { k with }

theorem TxKept.setResult (k : TxKept s t) : TxKept s (setResult r t) := { k with }

theorem EvKept.setResult (k : EvKept s t) : EvKept s (setResult r t) := { k with }

end Kept

theorem clearErrors_rxKept (s : State) : RxKept s (clearErrors s) := by constructor <;> rfl

theorem masked_of_tail : ∀ b : Byte, 0xC0 ≤ b.toNat → b.toNat ≤ 0xC3 → b &&& 0xFC = 0xC0 := by
  decide

/-- A byte that brings no TAIL leaves the event stack alone. -/
theorem receiveByte_evKept {i : Instr} {b : Byte} (hb : wireByte i = some b)
    (htail : bringsTail i = false) (s : State) : EvKept s (receiveByte b s) := by
  obtain hkept | ⟨⟨hlo, hhi⟩, -⟩ := receiveByte_evKept_or_push b s
  · exact hkept
  · exact absurd (masked_of_tail b hlo hhi) (by simpa [bringsTail, hb] using htail)

/-- The columns of 10 R29: what an operation other than RESET does not write, it keeps. -/
theorem operation_kept {i : Instr} {s t : State} (h : exec i s = .next t) (hreset : i ≠ .reset) :
    ((∀ cmd e c payload, i ≠ .encode cmd e c payload) → TxKept s t) ∧
    (wireByte i = none → RxKept s t) ∧
    ((∀ code, i ≠ .evPush code) → i ≠ .evPop → bringsTail i = false → EvKept s t) := by
  obtain ⟨b, hb, rfl⟩ | ⟨rfl, -⟩ | ⟨cmd, e, c, payload, rfl, rfl⟩ | ⟨code, rfl, rfl⟩ | ⟨rfl, rfl⟩ |
    ⟨rfl, rfl⟩ | ⟨-, rfl⟩ := exec_inversion h
  · exact ⟨fun _ => (receiveByte_txKept b s).setResult _, fun hnone => by simp [hb] at hnone,
      fun _ _ htail => (receiveByte_evKept hb htail s).setResult _⟩
  · exact absurd rfl hreset
  · exact ⟨fun hne => absurd rfl (hne cmd e c payload),
      fun _ => (encodeFrame_rxKept cmd e c payload s).setResult _,
      fun _ _ _ => (encodeFrame_evKept cmd e c payload s).setResult _⟩
  · exact ⟨fun _ => (pushEvent_txKept code s).setResult _,
      fun _ => (pushEvent_rxKept code s).setResult _, fun hne => absurd rfl (hne code)⟩
  · exact ⟨fun _ => (popEvent_txKept s).setResult _, fun _ => (popEvent_rxKept s).setResult _,
      fun _ hne => absurd rfl hne⟩
  · exact ⟨fun _ => ⟨rfl, rfl, rfl⟩, fun _ => (clearErrors_rxKept s).setResult _,
      fun _ _ _ => ⟨rfl, rfl, rfl⟩⟩
  · exact ⟨fun _ => (TxKept.refl s).setResult _, fun _ => (RxKept.refl s).setResult _,
      fun _ _ _ => (EvKept.refl s).setResult _⟩

/-- Settles O41: each side is kept as a whole by every operation outside its column. -/
theorem operationsWriteOnlyTheirColumns : Obligations.OperationsWriteOnlyTheirColumns := by
  intro i s t h hreset
  obtain ⟨htx, hrx, hev⟩ := operation_kept h hreset
  exact ⟨fun hi => (htx hi).sameTx, fun hi => ⟨(hrx hi).sameRx, (hrx hi).samePacket⟩,
    fun hpush hpop htail => (hev hpush hpop htail).sameEvents⟩

/-! `pkt_valid`: a HEAD clears it and an accepted TAIL sets it. -/

theorem receiveEscape_pktValid (m : Mask) (s : State) :
    (receiveEscape m s).pktValid = s.pktValid := by
  obtain ⟨-, h⟩ | ⟨-, h⟩ := receiveEscape_spec m s <;> simp [h]

theorem receiveUnknown_pktValid (s : State) : (receiveUnknown s).pktValid = s.pktValid := by
  obtain ⟨-, h⟩ | ⟨-, h⟩ := receiveUnknown_spec s <;> simp [h]

theorem receiveData_pktValid (b : Byte) (s : State) :
    (receiveData b s).pktValid = s.pktValid := by
  obtain ⟨-, h⟩ | ⟨-, -, h⟩ | ⟨-, -, h⟩ := receiveData_spec b s <;> simp [h]

theorem receiveTail_pktValid (c e : Bool) (s : State) :
    (receiveTail c e s).pktValid = s.pktValid ∨
      s.rxActive = true ∧ (receiveTail c e s).pktValid = true := by
  obtain ⟨-, h⟩ | ⟨hact, -, h⟩ | ⟨-, -, h⟩ := receiveTail_spec c e s
  · exact .inl (by rw [h])
  · exact .inr ⟨hact, by simp [h, acceptFrame]⟩
  · exact .inl (by simp [h])

theorem receiveByte_pktValid (b : Byte) (s : State) :
    (receiveByte b s).pktValid = s.pktValid ∨
    (s.rxActive = true ∧ (0xC0 ≤ b.toNat ∧ b.toNat ≤ 0xC3) ∧ (receiveByte b s).pktValid = true) ∨
    ((0xC4 ≤ b.toNat ∧ b.toNat ≤ 0xC7) ∧ (receiveByte b s).pktValid = false) := by
  obtain ⟨-, h⟩ | ⟨hlo, hhi, h⟩ | ⟨hlo, hhi, h⟩ | ⟨-, -, h⟩ | ⟨-, h⟩ := receiveByte_cases b s <;>
    rw [h]
  · exact .inl (receiveData_pktValid b s)
  · exact (receiveTail_pktValid _ _ s).imp_right fun ⟨hact, hv⟩ => .inl ⟨hact, ⟨hlo, hhi⟩, hv⟩
  · exact .inr (.inr ⟨⟨hlo, hhi⟩, rfl⟩)
  · exact .inl (receiveEscape_pktValid _ s)
  · exact .inl (receiveUnknown_pktValid s)

/-- An operation keeps `pkt_valid`, or sets it at a TAIL in a frame, or clears it at a HEAD or
RESET (10 R18). -/
theorem operation_pktValid {i : Instr} {s t : State} (h : exec i s = .next t) :
    t.pktValid = s.pktValid ∨
    (t.pktValid = true ∧ s.rxActive = true ∧
      ∃ b, wireByte i = some b ∧ 0xC0 ≤ b.toNat ∧ b.toNat ≤ 0xC3) ∨
    (t.pktValid = false ∧
      (i = .reset ∨ ∃ b, wireByte i = some b ∧ 0xC4 ≤ b.toNat ∧ b.toNat ≤ 0xC7)) := by
  cases hb : wireByte i with
  | some b =>
    cases (exec_of_wireByte hb s).symm.trans h
    obtain hv | ⟨hact, hrange, hv⟩ | ⟨hrange, hv⟩ := receiveByte_pktValid b s
    · exact .inl hv
    · exact .inr (.inl ⟨hv, hact, b, rfl, hrange⟩)
    · exact .inr (.inr ⟨hv, .inr ⟨b, rfl, hrange⟩⟩)
  | none =>
    by_cases hreset : i = .reset
    · subst hreset
      cases h
      exact .inr (.inr ⟨rfl, .inl rfl⟩)
    · obtain ⟨-, hrx, -⟩ := operation_kept h hreset
      exact .inl (hrx hb).valid

/-- Settles O15: of the operations that bring no byte only RESET touches `pkt_valid`, and of the
bytes only an accepted TAIL sets it and only a HEAD clears it. -/
theorem packetValidRisesAtTailFallsAtHead : Obligations.PacketValidRisesAtTailFallsAtHead := by
  intro i s t h
  obtain hsame | ⟨hrise, hframe⟩ | ⟨hfall, hcause⟩ := operation_pktValid h
  · exact ⟨fun hfalse htrue => by simp [hsame, hfalse] at htrue,
      fun htrue hfalse => by simp [hsame, htrue] at hfalse⟩
  · exact ⟨fun _ _ => hframe, fun _ hfalse => by simp [hrise] at hfalse⟩
  · exact ⟨fun _ htrue => by simp [hfall] at htrue, fun _ _ => hcause⟩

/-! Slot 0: a push stores above `sp`, and nothing else writes a slot. -/

theorem pushEvent_slot_zero (code : EventCode) (s : State) :
    (pushEvent code s).stk.read 0 = s.stk.read 0 := by
  obtain ⟨-, -, h⟩ | ⟨-, -, -, h⟩ | ⟨-, -, -, h⟩ := pushEvent_spec code s <;> rw [h]
  · rfl
  · exact Slots.read_write_other _ _ (Nat.succ_ne_zero _).symm

theorem receiveByte_slot_zero (b : Byte) (s : State) :
    (receiveByte b s).stk.read 0 = s.stk.read 0 := by
  obtain hkept | ⟨-, u, hkept, h⟩ := receiveByte_evKept_or_push b s
  · rw [hkept.stk]
  · rw [h, pushEvent_slot_zero, hkept.stk]

/-- Settles O31: pushes are the only writes of a slot but RESET's, and they store above `sp`. -/
theorem slotZeroIsNeverWritten : Obligations.SlotZeroIsNeverWritten := by
  intro i s t h
  obtain ⟨b, hb, rfl⟩ | ⟨rfl, rfl⟩ | ⟨cmd, e, c, payload, rfl, rfl⟩ | ⟨code, rfl, rfl⟩ |
    ⟨rfl, rfl⟩ | ⟨rfl, rfl⟩ | ⟨hi, rfl⟩ := exec_inversion h
  · have hreset : i ≠ .reset := by rintro rfl; cases hb
    rw [if_neg hreset]
    exact receiveByte_slot_zero b s
  · rfl
  · simp [(encodeFrame_evKept cmd e c payload s).stk]
  · simp [pushEvent_slot_zero]
  · simp
  · simp
  · obtain rfl | rfl := hi <;> simp

/-! The sticky flags: outside ERR_CLEAR and RESET the only writes set them. -/

/-- A flag that is 1 in `s` is 1 in `t`. -/
def FlagsStay (s t : State) : Prop :=
  (s.errRxOvf = true → t.errRxOvf = true) ∧ (s.errEvFull = true → t.errEvFull = true)

theorem pushEvent_flagsStay (code : EventCode) (s : State) : FlagsStay s (pushEvent code s) := by
  obtain ⟨-, -, h⟩ | ⟨-, -, -, h⟩ | ⟨-, -, -, h⟩ := pushEvent_spec code s <;> rw [h]
  · exact ⟨id, fun _ => rfl⟩
  · exact ⟨id, id⟩
  · exact ⟨id, id⟩

theorem acceptFrame_flagsStay (c e : Bool) (s : State) : FlagsStay s (acceptFrame c e s) :=
  pushEvent_flagsStay requestReceived (latchPacket (s.rxBuf.read 1) (rxLength s) e c s)

theorem receiveTail_flagsStay (c e : Bool) (s : State) : FlagsStay s (receiveTail c e s) := by
  obtain ⟨-, h⟩ | ⟨-, -, h⟩ | ⟨-, -, h⟩ := receiveTail_spec c e s <;> rw [h]
  · exact ⟨id, id⟩
  · exact acceptFrame_flagsStay c e (closeFrame s)
  · exact ⟨id, id⟩

theorem receiveData_flagsStay (b : Byte) (s : State) : FlagsStay s (receiveData b s) := by
  obtain ⟨-, h⟩ | ⟨-, -, h⟩ | ⟨-, -, h⟩ := receiveData_spec b s <;> rw [h]
  · exact ⟨id, id⟩
  · exact ⟨id, id⟩
  · exact ⟨fun _ => rfl, id⟩

theorem receiveByte_flagsStay (b : Byte) (s : State) : FlagsStay s (receiveByte b s) := by
  obtain ⟨-, h⟩ | ⟨-, -, h⟩ | ⟨-, -, h⟩ | ⟨-, -, h⟩ | ⟨-, h⟩ := receiveByte_cases b s <;> rw [h]
  · exact receiveData_flagsStay b s
  · exact receiveTail_flagsStay _ _ s
  · exact ⟨id, id⟩
  · obtain ⟨-, h⟩ | ⟨-, h⟩ := receiveEscape_spec (b.extractLsb' 0 4) s <;> rw [h] <;> exact ⟨id, id⟩
  · obtain ⟨-, h⟩ | ⟨-, h⟩ := receiveUnknown_spec s <;> rw [h] <;> exact ⟨id, id⟩

theorem encodeFrame_flagsStay (cmd : Byte) (e c : Bool) (payload : List Byte) (s : State) :
    FlagsStay s (encodeFrame cmd e c payload s) := by
  obtain ⟨-, h⟩ | ⟨-, h⟩ := encodeFrame_spec cmd e c payload s <;> rw [h] <;> exact ⟨id, id⟩

/-- Settles O36: every effect but those of ERR_CLEAR and RESET leaves a flag alone or sets it. -/
theorem flagsAreSticky : Obligations.FlagsAreSticky := by
  intro i s t h hclear hreset
  obtain ⟨b, hb, rfl⟩ | ⟨rfl, -⟩ | ⟨cmd, e, c, payload, rfl, rfl⟩ | ⟨code, rfl, rfl⟩ |
    ⟨rfl, rfl⟩ | ⟨rfl, -⟩ | ⟨-, rfl⟩ := exec_inversion h
  · exact receiveByte_flagsStay b s
  · exact absurd rfl hreset
  · exact encodeFrame_flagsStay cmd e c payload s
  · exact pushEvent_flagsStay code s
  · simp
  · exact absurd rfl hclear
  · exact ⟨id, id⟩

/-! ### The invariants (10 R27) -/

/-! The receive side. -/

/-- With no valid packet, I-5 says nothing. -/
theorem RxInv.of_not_valid {s : State} (hvalid : s.pktValid = false) (form : s.rxBuf.wf = true)
    (inside : CellsBelow s.params.rxCap s.rxBuf) (len : s.rxLen ≤ s.params.rxCap)
    (mask : s.rxActive = false → s.rxMask = 0) : RxInv s := by
  have hvoid {P : Prop} : s.pktValid = true → P := fun h => absurd h (by simp [hvalid])
  exact ⟨form, inside, len, mask, hvoid, hvoid, hvoid, hvoid, hvoid, hvoid, hvoid⟩

theorem RxInv.not_valid {s : State} (h : RxInv s) (hactive : s.rxActive = true) :
    s.pktValid = false := by
  cases hvalid : s.pktValid with
  | false => rfl
  | true => exact absurd (h.noFrame hvalid) (by simp [hactive])

theorem receiveHead_rxInv (c e : Bool) {s : State} (h : RxInv s) : RxInv (receiveHead c e s) :=
  .of_not_valid rfl h.form h.inside (Nat.zero_le _) nofun

theorem receiveEscape_rxInv (m : Mask) {s : State} (h : RxInv s) : RxInv (receiveEscape m s) := by
  obtain ⟨-, heq⟩ | ⟨hactive, heq⟩ := receiveEscape_spec m s <;> rw [heq]
  · exact h
  · exact .of_not_valid (h.not_valid hactive) h.form h.inside h.len (by simp [hactive])

theorem dropFrame_rxInv {s : State} (h : RxInv s) (hactive : s.rxActive = true) :
    RxInv (dropFrame s) :=
  .of_not_valid (h.not_valid hactive) h.form h.inside (Nat.zero_le _) fun _ => rfl

theorem receiveUnknown_rxInv {s : State} (h : RxInv s) : RxInv (receiveUnknown s) := by
  obtain ⟨-, heq⟩ | ⟨hactive, heq⟩ := receiveUnknown_spec s <;> rw [heq]
  · exact h
  · exact dropFrame_rxInv h hactive

theorem receiveData_rxInv (b : Byte) {s : State} (h : RxInv s) : RxInv (receiveData b s) := by
  obtain ⟨-, heq⟩ | ⟨hactive, hroom, heq⟩ | ⟨hactive, -, heq⟩ := receiveData_spec b s <;> rw [heq]
  · exact h
  · exact .of_not_valid (h.not_valid hactive) (Memory.write_wf h.form _ _)
      (cellsBelow_write _ h.inside hroom _) hroom (by simp [hactive])
  · exact dropFrame_rxInv (s := setRxOverflow s) { h with } hactive

/-- A frame that passes the checks of 42 R94 meets I-5 as a packet. -/
theorem acceptFrame_rxInv {c e : Bool} {s : State} (h : RxInv s)
    (hcheck : checkFrame c e s = .accept) : RxInv (acceptFrame c e (closeFrame s)) := by
  obtain ⟨-, hstored, hpayload, hfits, hstrict, -⟩ := (checkFrame_accept_iff c e s).mp hcheck
  refine (pushEvent_rxKept requestReceived _).rxInv ?_
  exact {
    form := h.form
    inside := h.inside
    len := h.len
    mask := fun _ => rfl
    noFrame := fun _ => rfl
    payload := fun _ => hpayload
    stored := fun _ => hstored
    fits := fun _ => hfits
    cmd := fun _ => rfl
    length := fun _ => rfl
    strict := fun _ => hstrict }

theorem receiveTail_rxInv (c e : Bool) {s : State} (h : RxInv s) : RxInv (receiveTail c e s) := by
  obtain ⟨-, heq⟩ | ⟨-, hcheck, heq⟩ | ⟨hactive, -, heq⟩ := receiveTail_spec c e s <;> rw [heq]
  · exact h
  · exact acceptFrame_rxInv h hcheck
  · exact .of_not_valid (h.not_valid hactive) h.form h.inside h.len fun _ => rfl

theorem receiveByte_rxInv (b : Byte) {s : State} (h : RxInv s) : RxInv (receiveByte b s) := by
  obtain ⟨-, heq⟩ | ⟨-, -, heq⟩ | ⟨-, -, heq⟩ | ⟨-, -, heq⟩ | ⟨-, heq⟩ := receiveByte_cases b s <;>
    rw [heq]
  · exact receiveData_rxInv b h
  · exact receiveTail_rxInv _ _ h
  · exact receiveHead_rxInv _ _ h
  · exact receiveEscape_rxInv _ h
  · exact receiveUnknown_rxInv h

/-! The transmit side. -/

theorem encodeFrame_txInv (cmd : Byte) (e c : Bool) (payload : List Byte) {s : State}
    (h : TxInv s) : TxInv (encodeFrame cmd e c payload s) := by
  obtain ⟨hok, heq⟩ | ⟨-, heq⟩ := encodeFrame_spec cmd e c payload s <;> rw [heq]
  · obtain ⟨-, -, hfits⟩ := (encodeResult_ok_iff _ cmd e c payload).mp hok
    exact {
      form := Memory.writeBytes_wf _ h.form 0
      inside := Memory.writeBytes_below _ h.inside 0 (by omega)
      len := hfits
      whole := .inr (by simp [wireFrame_length]) }
  · exact h

/-! The event stack. -/

theorem stackGrow_evInv {code : EventCode} {s : State} (h : EvInv s)
    (hroom : s.sp < s.params.evCap - 1) (hnew : s.stk.read s.sp ≠ code)
    (hcode : code < 2 ^ s.params.evWidth) : EvInv (stackGrow code s) := by
  have hold {k : Nat} (hk : k ≠ s.sp + 1) : (stackGrow code s).stk.read k = s.stk.read k :=
    Slots.read_write_other _ _ hk
  have htop : (stackGrow code s).stk.read (s.sp + 1) = code := Slots.read_write_same _ _ _
  refine ⟨Slots.write_wf h.form _ _, cellsBelow_write _ h.inside (by omega) _, hroom, ?_, ?_, ?_⟩
  · rw [hold (by omega), h.slot0]
  · intro k hk
    obtain hlt | rfl := Nat.lt_succ_iff_lt_or_eq.mp hk
    · rw [hold (by omega), hold (by omega)]
      exact h.distinct k hlt
    · rw [hold (by omega), htop]
      exact hnew
  · intro k
    by_cases hk : k = s.sp + 1
    · rw [hk, htop]
      exact hcode
    · rw [hold hk]
      exact h.width k

theorem pushEvent_evInv {code : EventCode} {s : State} (h : EvInv s)
    (hcode : code < 2 ^ s.params.evWidth) : EvInv (pushEvent code s) := by
  obtain ⟨-, -, heq⟩ | ⟨-, -, -, heq⟩ | ⟨hroom, hnew, -, heq⟩ := pushEvent_spec code s <;> rw [heq]
  · exact { h with }
  · exact h
  · exact stackGrow_evInv h hroom hnew hcode

theorem popEvent_evInv {s : State} (h : EvInv s) : EvInv (popEvent s) := by
  obtain ⟨-, -, heq⟩ | ⟨-, -, heq⟩ := popEvent_spec s <;> rw [heq]
  · exact h
  · exact { h with
      depth := (Nat.sub_le _ _).trans h.depth
      distinct := fun k hk => h.distinct k (hk.trans_le (Nat.sub_le _ _)) }

/-- `RequestReceived` fits every legal EVW. -/
theorem requestReceived_lt {p : Params} (h : p.Legal) : requestReceived < 2 ^ p.evWidth :=
  Nat.one_lt_two_pow (by have := h.width; omega)

theorem receiveByte_evInv (b : Byte) {s : State} (hlegal : s.params.Legal) (h : EvInv s) :
    EvInv (receiveByte b s) := by
  obtain hkept | ⟨-, u, hkept, heq⟩ := receiveByte_evKept_or_push b s
  · exact hkept.evInv h
  · rw [heq]
    exact pushEvent_evInv (hkept.evInv h) (requestReceived_lt (hkept.params ▸ hlegal))

/-! The whole block. -/

theorem Inv.setResult {s : State} (h : Inv s) (r : Result) : Inv (setResult r s) :=
  ⟨h.legal, { h.rx with }, { h.tx with }, { h.ev with }⟩

theorem Inv.setPending {s : State} (h : Inv s) (l : List Request) : Inv (setPending l s) :=
  ⟨h.legal, { h.rx with }, { h.tx with }, { h.ev with }⟩

/-- The reset table of 10 R28 meets the invariants, whatever the parameters are. -/
theorem init_inv {p : Params} (h : p.Legal) : Inv (State.init p) where
  legal := h
  rx := .of_not_valid rfl rfl nofun (Nat.zero_le _) fun _ => rfl
  tx := ⟨rfl, nofun, Nat.zero_le _, .inl rfl⟩
  ev := ⟨rfl, nofun, Nat.zero_le _, rfl, nofun, fun _ => Nat.two_pow_pos _⟩

theorem default_legal : Params.default.Legal := by
  constructor <;> decide

/-- Settles O55: the reset table over the default column of 00 R6, which is legal. -/
theorem resetMeetsTheInvariants : Obligations.ResetMeetsTheInvariants := init_inv default_legal

/-- Every well-formed operation keeps the invariants; only EV_PUSH needs its operand in range. -/
theorem exec_keeps_inv {i : Instr} {s t : State} (hwf : wellFormed s.params i = true) (h : Inv s)
    (hexec : exec i s = .next t) : Inv t := by
  obtain ⟨b, -, rfl⟩ | ⟨-, rfl⟩ | ⟨cmd, e, c, payload, -, rfl⟩ | ⟨code, rfl, rfl⟩ | ⟨-, rfl⟩ |
    ⟨-, rfl⟩ | ⟨-, rfl⟩ := exec_inversion hexec <;> refine Inv.setResult ?_ _
  · have htx := receiveByte_txKept b s
    exact ⟨htx.params ▸ h.legal, receiveByte_rxInv b h.rx, htx.txInv h.tx,
      receiveByte_evInv b h.legal h.ev⟩
  · exact (init_inv h.legal).setPending s.pending
  · have hrx := encodeFrame_rxKept cmd e c payload s
    exact ⟨hrx.params ▸ h.legal, hrx.rxInv h.rx, encodeFrame_txInv cmd e c payload h.tx,
      (encodeFrame_evKept cmd e c payload s).evInv h.ev⟩
  · have hrx := pushEvent_rxKept code s
    exact ⟨hrx.params ▸ h.legal, hrx.rxInv h.rx, (pushEvent_txKept code s).txInv h.tx,
      pushEvent_evInv h.ev (of_decide_eq_true hwf)⟩
  · have hrx := popEvent_rxKept s
    exact ⟨hrx.params ▸ h.legal, hrx.rxInv h.rx, (popEvent_txKept s).txInv h.tx,
      popEvent_evInv h.ev⟩
  · exact ⟨h.legal, { h.rx with }, { h.tx with }, { h.ev with }⟩
  · exact h

/-- Settles O56: a step is idle or applies a decoded operation, which is well-formed (O48), so that
a pushed code fits its slot. -/
theorem stepKeepsTheInvariants : Obligations.StepKeepsTheInvariants := by
  intro s t h hstep
  obtain ⟨-, heq⟩ | ⟨r, rest, i, -, hdecode, heq⟩ | ⟨r, rest, why, -, -, heq⟩ := step_spec s <;>
    rw [heq] at hstep
  · cases hstep; exact h
  · exact exec_keeps_inv (s := setPending rest s) (decodedOperationsAreWellFormed _ r i hdecode)
      (h.setPending rest) hstep
  · cases hstep

/-! ### What no operation reads (10 R19, R20, R23)

An operation is a chain of updates, chosen by what `SameReads` lists. So a relation between states
that agree on those reads, and that every update keeps, is kept by every operation. -/

/-- The updates that operations are made of. -/
inductive Update : (State → State) → Prop where
  | setResult (r : Result) : Update (setResult r)
  | resetBlock : Update resetBlock
  | clearErrors : Update clearErrors
  | setRxOverflow : Update setRxOverflow
  | setEventFull : Update setEventFull
  | openFrame (c e : Bool) : Update (openFrame c e)
  | setMask (m : Mask) : Update (setMask m)
  | closeFrame : Update closeFrame
  | dropFrame : Update dropFrame
  | storeRx (v : Byte) : Update (storeRx v)
  | latchPacket (cmd len : Byte) (order crc : Bool) : Update (latchPacket cmd len order crc)
  | storeTx (wire : List Byte) : Update (storeTx wire)
  | stackGrow (code : EventCode) : Update (stackGrow code)
  | stackShrink : Update stackShrink

/-- Two states agree on everything an operation reads to choose its updates and its result. -/
structure SameReads (s s' : State) : Prop where
  params : s'.params = s.params
  buf : s'.rxBuf = s.rxBuf
  len : s'.rxLen = s.rxLen
  mask : s'.rxMask = s.rxMask
  active : s'.rxActive = s.rxActive
  headC : s'.rxHeadC = s.rxHeadC
  headE : s'.rxHeadE = s.rxHeadE
  sp : s'.sp = s.sp
  top : s'.stk.read s.sp = s.stk.read s.sp

theorem SameReads.rxLength {s s' : State} (h : SameReads s s') : rxLength s' = rxLength s := by
  simp only [Machine.rxLength, h.buf]

theorem SameReads.checkFrame {s s' : State} (h : SameReads s s') (c e : Bool) :
    checkFrame c e s' = checkFrame c e s := by
  unfold Machine.checkFrame rxCrc rxPayload
  rw [h.rxLength, h.params, h.buf, h.len, h.headC, h.headE]

theorem SameReads.pushResult {s s' : State} (h : SameReads s s') (code : EventCode) :
    pushResult code s' = pushResult code s := by
  simp only [Machine.pushResult, h.params, h.sp, h.top]

theorem SameReads.popResult {s s' : State} (h : SameReads s s') : popResult s' = popResult s := by
  simp only [Machine.popResult, h.sp, h.top]

/-- A relation that hides nothing an operation reads and that every update keeps. -/
structure Hidden (R : State → State → Prop) : Prop where
  reads {s s' : State} : R s s' → SameReads s s'
  update {f : State → State} (hf : Update f) {s s' : State} : R s s' → R (f s) (f s')

section Hidden
variable {R : State → State → Prop} (hR : Hidden R) {s s' : State}
include hR

theorem Hidden.pushEvent (code : EventCode) (h : R s s') :
    R (pushEvent code s) (pushEvent code s') := by
  unfold Machine.pushEvent
  rw [(hR.reads h).pushResult]
  split
  · exact hR.update .setEventFull h
  · exact h
  · exact hR.update (.stackGrow code) h

theorem Hidden.popEvent (h : R s s') : R (popEvent s) (popEvent s') := by
  unfold Machine.popEvent
  rw [(hR.reads h).sp]
  split
  · exact h
  · exact hR.update .stackShrink h

theorem Hidden.encodeFrame (cmd : Byte) (e c : Bool) (payload : List Byte) (h : R s s') :
    R (encodeFrame cmd e c payload s) (encodeFrame cmd e c payload s') := by
  unfold Machine.encodeFrame
  rw [(hR.reads h).params]
  split
  · exact hR.update (.storeTx _) h
  · exact h
  · exact h

theorem Hidden.receiveEscape (m : Mask) (h : R s s') :
    R (receiveEscape m s) (receiveEscape m s') := by
  unfold Machine.receiveEscape
  rw [(hR.reads h).active]
  split
  · exact hR.update (.setMask m) h
  · exact h

theorem Hidden.receiveUnknown (h : R s s') : R (receiveUnknown s) (receiveUnknown s') := by
  unfold Machine.receiveUnknown
  rw [(hR.reads h).active]
  split
  · exact hR.update .dropFrame h
  · exact h

theorem Hidden.receiveData (b : Byte) (h : R s s') : R (receiveData b s) (receiveData b s') := by
  have hreads := hR.reads h
  unfold Machine.receiveData restored
  rw [hreads.active, hreads.len, hreads.params, hreads.mask]
  split_ifs
  · exact hR.update (.storeRx _) (hR.update (.setMask _) h)
  · exact hR.update (.storeRx _) (hR.update (.setMask _) h)
  · exact hR.update .dropFrame (hR.update .setRxOverflow h)
  · exact h

theorem Hidden.receiveTail (c e : Bool) (h : R s s') :
    R (receiveTail c e s) (receiveTail c e s') := by
  have hclosed := hR.update .closeFrame h
  unfold Machine.receiveTail
  rw [(hR.reads h).active, (hR.reads h).checkFrame]
  split
  · split
    · unfold acceptFrame
      rw [(hR.reads hclosed).buf, (hR.reads hclosed).rxLength]
      exact hR.pushEvent requestReceived (hR.update (.latchPacket _ _ e c) hclosed)
    · exact hclosed
  · exact h

theorem Hidden.receiveByte (b : Byte) (h : R s s') : R (receiveByte b s) (receiveByte b s') := by
  unfold Machine.receiveByte
  split
  · exact hR.update (.openFrame _ _) h
  · exact hR.receiveTail _ _ h
  · exact hR.receiveEscape _ h
  · exact hR.receiveUnknown h
  · exact hR.receiveData b h

/-- Every operation keeps a hidden relation between its two next states. -/
theorem Hidden.exec {i : Instr} {t : State} (h : R s s') (hexec : exec i s = .next t) :
    ∃ t', exec i s' = .next t' ∧ R t t' := by
  obtain ⟨b, hb, rfl⟩ | ⟨rfl, rfl⟩ | ⟨cmd, e, c, payload, rfl, rfl⟩ | ⟨code, rfl, rfl⟩ |
    ⟨rfl, rfl⟩ | ⟨rfl, rfl⟩ | ⟨hi, rfl⟩ := exec_inversion hexec
  · exact ⟨_, exec_of_wireByte hb s', hR.update (.setResult _) (hR.receiveByte b h)⟩
  · exact ⟨_, rfl, hR.update (.setResult _) (hR.update .resetBlock h)⟩
  · refine ⟨_, rfl, ?_⟩
    rw [(hR.reads h).params]
    exact hR.update (.setResult _) (hR.encodeFrame cmd e c payload h)
  · refine ⟨_, rfl, ?_⟩
    rw [(hR.reads h).pushResult]
    exact hR.update (.setResult _) (hR.pushEvent code h)
  · refine ⟨_, rfl, ?_⟩
    rw [(hR.reads h).popResult]
    exact hR.update (.setResult _) (hR.popEvent h)
  · exact ⟨_, rfl, hR.update (.setResult _) (hR.update .clearErrors h)⟩
  · obtain rfl | rfl := hi
    · exact ⟨_, rfl, hR.update (.setResult _) h⟩
    · exact ⟨_, rfl, hR.update (.setResult _) h⟩

end Hidden

/-! The flags. -/

/-- The state `s'` is `s` but for the flags. -/
def FlagsDiffer (s s' : State) : Prop := ∃ f g, s' = { s with errRxOvf := f, errEvFull := g }

theorem hidden_flags : Hidden FlagsDiffer where
  reads := by rintro s _ ⟨f, g, rfl⟩; constructor <;> rfl
  update hf := by
    rintro s _ ⟨f, g, rfl⟩
    cases hf with
    | resetBlock => exact ⟨false, false, rfl⟩
    | clearErrors => exact ⟨false, false, rfl⟩
    | setRxOverflow => exact ⟨true, g, rfl⟩
    | setEventFull => exact ⟨f, true, rfl⟩
    | _ => exact ⟨f, g, rfl⟩

/-- Settles O38: no update reads a flag. -/
theorem flagsAreNeverRead : Obligations.FlagsAreNeverRead := by
  intro i s t f g h
  obtain ⟨_, hexec, f', g', rfl⟩ := hidden_flags.exec ⟨f, g, rfl⟩ h
  exact ⟨f', g', hexec⟩

/-! The slots above `sp`. -/

/-- The state `s'` is `s` but for the slots above `sp`. -/
def StaleSlotsDiffer (s s' : State) : Prop :=
  ∃ m : Slots, s' = { s with stk := m } ∧ ∀ k, k ≤ s.sp → m.read k = s.stk.read k

theorem hidden_staleSlots : Hidden StaleSlotsDiffer where
  reads := by
    rintro s _ ⟨m, rfl, hm⟩
    exact ⟨rfl, rfl, rfl, rfl, rfl, rfl, rfl, rfl, hm s.sp le_rfl⟩
  update hf := by
    rintro s _ ⟨m, rfl, hm⟩
    cases hf with
    | resetBlock => exact ⟨[], rfl, fun _ _ => rfl⟩
    | stackGrow code =>
      refine ⟨m.write (s.sp + 1) code, rfl, fun k hk => ?_⟩
      obtain hlt | rfl := Nat.le_succ_iff.mp hk
      · exact (m.read_write_other code (by omega)).trans <|
          (hm k hlt).trans (s.stk.read_write_other code (by omega)).symm
      · exact (m.read_write_same _ code).trans (s.stk.read_write_same _ code).symm
    | stackShrink => exact ⟨m, rfl, fun k hk => hm k (hk.trans (Nat.sub_le _ _))⟩
    | _ => exact ⟨m, rfl, hm⟩

/-- Settles O39: a slot is read at `sp` alone, and `sp` rises only onto a slot just written. -/
theorem staleSlotsAreNeverRead : Obligations.StaleSlotsAreNeverRead := by
  intro i s t m hm h
  obtain ⟨_, hexec, m', rfl, hm'⟩ := hidden_staleSlots.exec ⟨m, rfl, hm⟩ h
  exact ⟨m', hexec, hm'⟩

/-! The bytes of `tx_buf` at or above `tx_len`. -/

theorem Memory.read_writeBytes_inside (m : Memory) (i : Nat) (vs : List Byte) {k : Nat}
    (hk : k < vs.length) : (m.writeBytes i vs).read (i + k) = vs[k] := by
  have hread := Memory.getElem?_readBytes (m.writeBytes i vs) vs.length i k hk
  rw [Memory.readBytes_writeBytes, List.getElem?_eq_getElem hk] at hread
  exact (Option.some.inj hread).symm

/-- The state `s'` is `s` but for the bytes of `tx_buf` at or above `tx_len`. -/
def StaleTxDiffer (s s' : State) : Prop :=
  ∃ m : Memory, s' = { s with txBuf := m } ∧ ∀ k, k < s.txLen → m.read k = s.txBuf.read k

theorem hidden_staleTx : Hidden StaleTxDiffer where
  reads := by rintro s _ ⟨m, rfl, -⟩; constructor <;> rfl
  update hf := by
    rintro s _ ⟨m, rfl, hm⟩
    cases hf with
    | resetBlock => exact ⟨[], rfl, fun _ _ => rfl⟩
    | storeTx wire =>
      refine ⟨m.writeBytes 0 wire, rfl, fun k hk => ?_⟩
      have hread (m : Memory) : (m.writeBytes 0 wire).read k = wire[k] := by
        simpa using m.read_writeBytes_inside 0 wire hk
      exact (hread m).trans (hread s.txBuf).symm
    | _ => exact ⟨m, rfl, hm⟩

/-- Settles O40: no update reads `tx_buf`, and ENCODE writes every byte below its `tx_len`. -/
theorem staleTransmitBytesAreNeverRead : Obligations.StaleTransmitBytesAreNeverRead := by
  intro i s t m hm h
  obtain ⟨_, hexec, m', rfl, hm'⟩ := hidden_staleTx.exec ⟨m, rfl, hm⟩ h
  exact ⟨m', hexec, hm'⟩

end Sys2Proof.Machine

namespace Sys2Proof.Machine

/-! ## 20_memory.md: the next operation (20 R37, R39) -/

/-- Settles O52: with a request pending a step is not idle, and one that decodes is not refused. -/
theorem stepAppliesTheDecodedOperation : Obligations.StepAppliesTheDecodedOperation := by
  intro s r rest i hpending hdecode
  obtain ⟨hnil, -⟩ | ⟨r', rest', i', hpending', hdecode', hstep⟩ |
    ⟨r', rest', why, hpending', hdecode', -⟩ := step_spec s
  · cases hpending.symm.trans hnil
  · cases hpending.symm.trans hpending'
    cases hdecode.symm.trans hdecode'
    exact hstep
  · cases hpending.symm.trans hpending'
    cases hdecode.symm.trans hdecode'

end Sys2Proof.Machine

namespace Sys2Proof

/-! ## 30_encoding.md: the decoder's rows, the encoder's inverse, the Command byte -/

/-! ### Decoding inverts encoding (30 R47, 00 R8)

A row's fixed bits select the row, and its free bits come back as the operand; the operand bytes of
a select code come back through `flagByte_fields` and `natOfBytes_bytesOfNat`. -/

theorem decodeWire_dataLo : ∀ d : BitVec 7, decodeWire (0b0#1 ++ d) = .dataLo d := by decide

theorem decodeWire_dataHi : ∀ d : BitVec 6, decodeWire (0b10#2 ++ d) = .dataHi d := by decide

theorem decodeWire_tail : ∀ c e : Bool,
    decodeWire (0b110000#6 ++ BitVec.ofBool c ++ BitVec.ofBool e) = .tail c e := by decide

theorem decodeWire_head : ∀ c e : Bool,
    decodeWire (0b110001#6 ++ BitVec.ofBool c ++ BitVec.ofBool e) = .head c e := by decide

theorem decodeWire_unknownA : ∀ x : BitVec 3, decodeWire (0b11001#5 ++ x) = .unknownA x := by
  decide

theorem decodeWire_escape : ∀ m : Mask, decodeWire (0b1101#4 ++ m) = .escape m := by decide

theorem decodeWire_unknownB : ∀ x : BitVec 5, decodeWire (0b111#3 ++ x) = .unknownB x := by decide

/-- A payload of at most 255 bytes has the length its byte L says. -/
theorem decodeEncode_operands (cmd : Byte) (e c : Bool) {payload : List Byte}
    (h : payload.length < 256) :
    decodeEncode (cmd :: flagByte e c :: BitVec.ofNat 8 payload.length :: payload) =
      .ok (.encode cmd e c payload) := by
  obtain ⟨hrest, he, hc⟩ := flagByte_fields e c
  have hlen : payload.length = (BitVec.ofNat 8 payload.length).toNat := by
    rw [BitVec.toNat_ofNat, Nat.mod_eq_of_lt h]
  rw [decodeEncode, if_neg (not_not.mpr hrest), if_neg (not_not.mpr hlen), he, hc]

/-- A code of EVW bits is read back from as many bytes as it takes. -/
theorem decodeEvPush_operands {p : Params} {code : EventCode} (h : code < 2 ^ p.evWidth) :
    decodeEvPush p (bytesOfNat (eventBytes p) code) = .ok (.evPush code) := by
  have hcode : natOfBytes (bytesOfNat (eventBytes p) code) = code :=
    natOfBytes_bytesOfNat _ _ (eventCode_lt p h)
  rw [decodeEvPush, if_neg (not_not.mpr (length_bytesOfNat _ _)), hcode, if_pos h]

/-- Settles O47: each row's byte and each select code's operands are read back by their own
decoder; only ENCODE's L and EV_PUSH's code need the bound of well-formedness. -/
theorem decodeInvertsEncode : Obligations.DecodeInvertsEncode := by
  intro p i hwf
  cases i with
  | dataLo d => exact congrArg Except.ok (decodeWire_dataLo d)
  | dataHi d => exact congrArg Except.ok (decodeWire_dataHi d)
  | tail c e => exact congrArg Except.ok (decodeWire_tail c e)
  | head c e => exact congrArg Except.ok (decodeWire_head c e)
  | unknownA x => exact congrArg Except.ok (decodeWire_unknownA x)
  | escape m => exact congrArg Except.ok (decodeWire_escape m)
  | unknownB x => exact congrArg Except.ok (decodeWire_unknownB x)
  | encode cmd e c payload => exact decodeEncode_operands cmd e c (of_decide_eq_true hwf)
  | evPush code => exact decodeEvPush_operands (of_decide_eq_true hwf)
  | reset | rxByte _ | evPop | errClear | opReserved6 | opReserved7 => rfl

/-- Settles O46: each word is evaluated by its row's decoder. -/
theorem sampleWordsDecode : Obligations.SampleWordsDecode := by
  unfold Obligations.SampleWordsDecode
  decide

end Sys2Proof

namespace Sys2Proof.Machine

/-! ### The rows by range (30 R47) -/

/-- The row a wire byte decodes to, by the range of the byte. -/
theorem decodeWire_cases (b : Byte) :
    (b.toNat ≤ 0x7F ∧ decodeWire b = .dataLo (b.extractLsb' 0 7)) ∨
    ((0x80 ≤ b.toNat ∧ b.toNat ≤ 0xBF) ∧ decodeWire b = .dataHi (b.extractLsb' 0 6)) ∨
    ((0xC0 ≤ b.toNat ∧ b.toNat ≤ 0xC3) ∧ decodeWire b = .tail b[1] b[0]) ∨
    ((0xC4 ≤ b.toNat ∧ b.toNat ≤ 0xC7) ∧ decodeWire b = .head b[1] b[0]) ∨
    ((0xC8 ≤ b.toNat ∧ b.toNat ≤ 0xCF) ∧ decodeWire b = .unknownA (b.extractLsb' 0 3)) ∨
    ((0xD0 ≤ b.toNat ∧ b.toNat ≤ 0xDF) ∧ decodeWire b = .escape (b.extractLsb' 0 4)) ∨
    (0xE0 ≤ b.toNat ∧ decodeWire b = .unknownB (b.extractLsb' 0 5)) := by
  revert b
  decide

/-- A row's fixed bits and the operand are the whole byte again. -/
theorem wireByte_decodeWire : ∀ b : Byte, wireByte (decodeWire b) = some b := by decide

/-- Settles O45: the byte is in one range, whose row it decodes to, and the ranges are disjoint. -/
theorem wireBytesHaveOneClass : Obligations.WireBytesHaveOneClass := by
  intro b
  refine ⟨wireByte_decodeWire b, ?_⟩
  obtain ⟨hrange, h⟩ | ⟨hrange, h⟩ | ⟨hrange, h⟩ | ⟨hrange, h⟩ | ⟨hrange, h⟩ | ⟨hrange, h⟩ |
    ⟨hrange, h⟩ := decodeWire_cases b <;>
  · simp only [h, Instr.dataLo.injEq, Instr.dataHi.injEq, Instr.tail.injEq, Instr.head.injEq,
      Instr.unknownA.injEq, Instr.escape.injEq, Instr.unknownB.injEq, reduceCtorEq, exists_and_left,
      exists_eq', and_true, exists_false, true_iff, false_iff]
    omega

/-! ### The Command byte (30 R58) -/

@[simp] theorem PacketStatus.ofCode_code (status : PacketStatus) :
    PacketStatus.ofCode status.code = status := by
  cases status <;> rfl

/-- Bit 7 of a packed Command byte is 0, and each field stands at its own bits. -/
theorem commandByte_fields : ∀ (service : BitVec 3) (subfunction status : BitVec 2),
    isControl (0#1 ++ service ++ subfunction ++ status) = false ∧
    (0#1 ++ service ++ subfunction ++ status).extractLsb' 4 3 = service ∧
    (0#1 ++ service ++ subfunction ++ status).extractLsb' 2 2 = subfunction ∧
    (0#1 ++ service ++ subfunction ++ status).extractLsb' 0 2 = status := by decide

/-- Settles O49: a control byte has bit 7 set, and a status is read back from its code. -/
theorem packedCommandIsData : Obligations.PackedCommandIsData := by
  rintro ⟨service, subfunction, status⟩
  obtain ⟨hdata, hservice, hsubfunction, hstatus⟩ :=
    commandByte_fields service subfunction status.code
  exact ⟨hdata, by
    simp only [Command.unpack, Command.pack, hservice, hsubfunction, hstatus,
      PacketStatus.ofCode_code]⟩

end Sys2Proof.Machine

/-! ## 40_primitives.md: the framing primitives, bit by bit -/

namespace Sys2Proof.Machine

/-! ### The marker (40 R65 to R67) -/

/-- The marker pattern is bits 7 and 6 both set. -/
theorem isControl_eq_bits : ∀ b : Byte, isControl b = (b[7] && b[6]) := by decide

theorem getElem_clearMarker (d : Byte) (i : Nat) (hi : i < 8) :
    (clearMarker d)[i] = (d[i] && decide (i ≠ 7)) := by
  unfold clearMarker
  interval_cases i <;> simp

theorem getElem_restoreMarker (b : Byte) (i : Nat) (hi : i < 8) :
    (restoreMarker b)[i] = (b[i] || decide (i = 7)) := by
  unfold restoreMarker
  interval_cases i <;> simp

theorem isControl_clearMarker (d : Byte) : isControl (clearMarker d) = false := by
  simp [isControl_eq_bits, getElem_clearMarker]

/-- Only bit 7 is cleared and set again, so a byte that had it set comes back. -/
theorem restoreMarker_clearMarker {d : Byte} (hbit : d[7] = true) :
    restoreMarker (clearMarker d) = d := by
  ext i hi
  rw [getElem_restoreMarker, getElem_clearMarker]
  by_cases h : i = 7
  · subst h; simp [hbit]
  · simp [h]

/-- Settles O43: a colliding byte has bit 7 set, the one bit the two primitives touch. -/
theorem restoreUndoesClear : Obligations.RestoreUndoesClear := by
  intro d hcollides
  have hbits : (d[7] && d[6]) = true := (isControl_eq_bits d).symm.trans hcollides
  exact ⟨isControl_clearMarker d, restoreMarker_clearMarker (Bool.and_elim_left hbits)⟩

/-! ### The Length fold (40 R68, R69) -/

/-- The table of 40 R68: `W[7] = L[6]`, `W[6] = L[7]`, `W[5:0] = L[5:0]`. -/
theorem getElem_fold (l : Byte) (i : Nat) (hi : i < 8) :
    (fold l)[i] = if i = 7 then l[6] else if i = 6 then l[7] else l[i] := by
  unfold fold
  interval_cases i <;> simp

theorem extractLsb'_fold (l : Byte) : (fold l).extractLsb' 0 6 = l.extractLsb' 0 6 := by
  ext i hi
  have hbyte : i < 8 := by omega
  have hkept : (fold l)[i] = l[i] := by
    rw [getElem_fold, if_neg (by omega), if_neg (by omega)]
  simpa [hbyte] using hkept

theorem fold_fold (l : Byte) : fold (fold l) = l := by
  ext i hi
  rw [getElem_fold]
  split_ifs with h7 h6
  · subst h7; exact getElem_fold l 6 (by decide)
  · subst h6; exact getElem_fold l 7 (by decide)
  · rw [getElem_fold, if_neg h7, if_neg h6]

theorem isControl_fold (l : Byte) : isControl (fold l) = isControl l := by
  simp [isControl_eq_bits, getElem_fold, Bool.and_comm]

/-- Settles O44: the fold by its bits; `unfold` is the same exchange, made a second time. -/
theorem foldExchangesTheTopBits : Obligations.FoldExchangesTheTopBits := fun l =>
  ⟨getElem_fold l 7 (by decide), getElem_fold l 6 (by decide), extractLsb'_fold l, fold_fold l,
    fold_fold l, isControl_fold l⟩

end Sys2Proof.Machine

/-! ## 41_encoder.md: stuffing and destuffing, what ENCODE stores and what it refuses -/

namespace Sys2Proof.Machine

/-! ### The bytes of a stuffed run (41 R77) -/

/-- An emitted byte has no marker: a colliding byte loses it, any other has none. -/
theorem isControl_emitByte (d : Byte) : isControl (emitByte d) = false := by
  unfold emitByte
  split
  · exact isControl_clearMarker d
  · next h => exact Bool.eq_false_iff.mpr h

theorem emitByte_plain {d : Byte} (h : collides d = false) : emitByte d = d := by
  simp [emitByte, h]

theorem emitByte_colliding {d : Byte} (h : collides d = true) : emitByte d = clearMarker d := by
  simp [emitByte, h]

/-- Bit `k` of a window's mask is set exactly when its byte `k` is there and collides. -/
theorem getElem_windowMask (w : List Byte) :
    ∀ (k : Nat) (hk : k < 4), (windowMask w)[k] = w[k]?.any collides := by
  induction w with
  | nil => intro k hk; simp
  | cons d w ih =>
    intro k hk
    cases k with
    | zero => cases h : collides d <;> simp [windowMask, h]
    | succ k => cases h : collides d <;> simp [windowMask, h, ih k (by omega)]

theorem windowMask_cons_bit_zero (d : Byte) (w : List Byte) :
    (windowMask (d :: w))[0] = collides d := by
  simp [getElem_windowMask]

/-- Consuming a mask bit leaves the mask of the bytes still to come. -/
theorem windowMask_cons_shift (d : Byte) {w : List Byte} (h : w.length < 4) :
    windowMask (d :: w) >>> 1 = windowMask w := by
  ext k hk
  rw [getElem_windowMask w k hk]
  by_cases hlast : k + 1 < 4
  · simpa [Nat.add_comm 1 k, hlast] using getElem_windowMask (d :: w) (k + 1) hlast
  · have hgone : (windowMask (d :: w)).getLsbD (k + 1) = false :=
      BitVec.getLsbD_of_ge _ _ (by omega)
    rw [List.getElem?_eq_none (by omega)]
    simpa [Nat.add_comm 1 k] using hgone

theorem escapeByte_fields : ∀ m : Mask,
    (escapeByte m).extractLsb' 4 4 = 0xD ∧ (escapeByte m)[0] = m[0] := by decide

/-- Settles O22: along the scan, a byte copied or emitted is no control byte, and an ESCAPE opens a
window whose first byte collides. -/
theorem stuffedControlBytesAreOddEscapes : Obligations.StuffedControlBytesAreOddEscapes := by
  intro r
  induction r using scan_induction with
  | nil => intro b hb; cases hb
  | plain d r hd ih =>
    intro b hb hcontrol
    rw [stuff_cons_plain r hd] at hb
    obtain rfl | hb := List.mem_cons.mp hb
    · exact absurd (hd.symm.trans hcontrol) (by decide)
    · exact ih b hb hcontrol
  | window d r hd ih =>
    intro b hb hcontrol
    rw [stuff_cons_window r hd] at hb
    obtain hb | hb := List.mem_append.mp hb
    · obtain rfl | hb := List.mem_cons.mp hb
      · obtain ⟨hmarker, hbit⟩ := escapeByte_fields (windowMask (d :: r.take 3))
        exact ⟨hmarker, by rw [hbit, windowMask_cons_bit_zero, hd]⟩
      · obtain ⟨x, -, rfl⟩ := List.mem_map.mp hb
        exact absurd ((isControl_emitByte x).symm.trans hcontrol) (by decide)
    · exact ih b hb hcontrol

/-! ### The length of a stuffed run (30 R62, 41 R78) -/

theorem length_stuff (r : List Byte) : (stuff r).length = r.length + esc r := by
  induction r using scan_induction with
  | nil => rfl
  | plain d r hd ih =>
    rw [stuff_cons_plain r hd, esc_cons_plain r hd, List.length_cons, List.length_cons, ih]
    omega
  | window d r hd ih =>
    rw [stuff_cons_window r hd, esc_cons_window r hd]
    simp only [List.length_append, List.length_cons, List.length_map, List.length_take, ih,
      List.length_drop]
    omega

theorem esc_le (r : List Byte) : esc r ≤ (r.length + 3) / 4 := by
  induction r using scan_induction with
  | nil => decide
  | plain d r hd ih => rw [esc_cons_plain r hd, List.length_cons]; omega
  | window d r hd ih =>
    rw [esc_cons_window r hd, List.length_cons]
    rw [List.length_drop] at ih
    omega

theorem stuff_eq_self {r : List Byte} (h : ∀ b ∈ r, collides b = false) : stuff r = r := by
  induction r with
  | nil => rfl
  | cons d r ih =>
    rw [stuff_cons_plain r (h d (by simp)), ih fun b hb => h b (by simp [hb])]

/-- Settles O23: a window takes one ESCAPE byte and covers four bytes, or the last of the run. -/
theorem stuffingAddsOneByteAWindow : Obligations.StuffingAddsOneByteAWindow := fun r =>
  ⟨length_stuff r, esc_le r, stuff_eq_self⟩

/-! ### Bytes received one after another, what the last one returned aside (42 R85)

No operation reads the result (log entry 4), so runs of bytes compose without it. -/

/-- The state `s'` is `s` but for the result. -/
def ResultDiffers (s s' : State) : Prop := ∃ q, s' = setResult q s

theorem hidden_result : Hidden ResultDiffers where
  reads := by rintro s _ ⟨q, rfl⟩; constructor <;> rfl
  update hf := by
    rintro s _ ⟨q, rfl⟩
    cases hf with
    | setResult r => exact ⟨r, rfl⟩
    | resetBlock => exact ⟨.none, rfl⟩
    | _ => exact ⟨q, rfl⟩

/-- The bytes, fed one by one to RX_BYTE, take the block from `s` to `u` but for the result. -/
def Receives (bytes : List Byte) (s u : State) : Prop :=
  ∃ q, receiveBytes bytes s = .next (setResult q u)

theorem Receives.nil (s : State) : Receives [] s s := ⟨s.result, rfl⟩

/-- The result a run of bytes starts with makes no difference to what it does. -/
theorem Receives.setResult {bytes : List Byte} {s u : State} (h : Receives bytes s u)
    (r : Result) : Receives bytes (setResult r s) u := by
  obtain ⟨q, hbytes⟩ := h
  cases bytes with
  | nil => cases hbytes; exact ⟨r, rfl⟩
  | cons b bytes =>
    obtain ⟨r', hbyte⟩ :=
      hidden_result.receiveByte b (s := s) (s' := Machine.setResult r s) ⟨r, rfl⟩
    refine ⟨q, Eq.trans ?_ hbytes⟩
    change receiveBytes bytes (Machine.setResult .none (receiveByte b _)) = _
    rw [hbyte]
    rfl

theorem Receives.append {a b : List Byte} {s u v : State} (ha : Receives a s u)
    (hb : Receives b u v) : Receives (a ++ b) s v := by
  obtain ⟨r, ha⟩ := ha
  obtain ⟨q, hb⟩ := hb.setResult r
  exact ⟨q, by rw [receiveBytes_append, ha, andThen_next, hb]⟩

theorem Receives.cons {b : Byte} {bytes : List Byte} {s u v : State} (hb : receiveByte b s = u)
    (hbytes : Receives bytes u v) : Receives (b :: bytes) s v := by
  subst hb
  exact .append (a := [b]) ⟨.none, rfl⟩ hbytes

/-! ### Destuffing (41 R78(e), 42 R90, R92) -/

theorem Memory.writeBytes_append (a b : List Byte) :
    ∀ (m : Memory) (i : Nat),
      m.writeBytes i (a ++ b) = (m.writeBytes i a).writeBytes (i + a.length) b := by
  induction a with
  | nil => intro m i; rfl
  | cons v a ih =>
    intro m i
    exact (ih (m.write i v) (i + 1)).trans
      (by rw [List.length_cons, Nat.add_assoc, Nat.add_comm 1]; rfl)

/-- A run stored at `rx_len` and counted: its bytes stored one after another (42 R92). -/
def storeRun (r : List Byte) (s : State) : State :=
  { s with rxBuf := s.rxBuf.writeBytes s.rxLen r, rxLen := s.rxLen + r.length }

theorem storeRun_append (a b : List Byte) (s : State) :
    storeRun b (storeRun a s) = storeRun (a ++ b) s := by
  simp [storeRun, Memory.writeBytes_append, Nat.add_assoc]

theorem storeRun_storeRx (d : Byte) (w : List Byte) (s : State) :
    storeRun w (storeRx d s) = storeRun (d :: w) s := storeRun_append [d] w s

theorem setMask_eq_self {m : Mask} {s : State} (h : s.rxMask = m) : setMask m s = s := by
  subst h; rfl

/-- A byte that is no control byte is data (40 R71). -/
theorem classify_of_not_control {b : Byte} (h : isControl b = false) : classify b = .data := by
  rw [classify, if_pos (of_decide_eq_false h)]

/-- In a frame, an ESCAPE byte loads its mask. -/
theorem receiveByte_escapeByte (m : Mask) {s : State} (hactive : s.rxActive = true) :
    receiveByte (escapeByte m) s = setMask m s := by
  simp [receiveByte, classify_escapeByte, receiveEscape, hactive]

/-- An emitted byte is restored when the mask's next bit says that it collided. -/
theorem restored_emitByte {d : Byte} {s : State} (hbit : s.rxMask[0] = collides d) :
    restored (emitByte d) s = d := by
  rw [restored, hbit]
  cases hd : collides d with
  | false => exact emitByte_plain hd
  | true => rw [emitByte_colliding hd]; exact (restoreUndoesClear d hd).2

/-- In a frame with room, an emitted byte whose mask bit is next is stored as it was. -/
theorem receiveByte_emitByte {d : Byte} {s : State} (hactive : s.rxActive = true)
    (hroom : s.rxLen < s.params.rxCap) (hbit : s.rxMask[0] = collides d) :
    receiveByte (emitByte d) s = storeRx d (setMask (s.rxMask >>> 1) s) := by
  simp [receiveByte, classify_of_not_control (isControl_emitByte d), receiveData, hactive, hroom,
    restored_emitByte hbit]

/-- The emitted bytes of a window, fed under the window's mask, use the mask up and store the
window. -/
theorem receives_window (w : List Byte) :
    ∀ (s : State), w.length ≤ 4 → s.rxActive = true → s.rxLen + w.length ≤ s.params.rxCap →
      Receives (w.map emitByte) (setMask (windowMask w) s) (storeRun w (setMask 0 s)) := by
  induction w with
  | nil => intro s _ _ _; exact .nil _
  | cons d w ih =>
    intro s hlen hactive hroom
    rw [List.length_cons] at hlen hroom
    have hbyte := receiveByte_emitByte (d := d) (s := setMask (windowMask (d :: w)) s) hactive
      (by simp; omega) (windowMask_cons_bit_zero d w)
    rw [setMask_rxMask, windowMask_cons_shift d (by omega)] at hbyte
    have hrest := ih (storeRx d s) (by omega) hactive (by simp; omega)
    exact .cons hbyte (storeRun_storeRx d w (setMask 0 s) ▸ hrest)

/-- A stuffed run, fed in a frame with an empty mask and room, stores the run, and nothing else
changes. -/
theorem receives_stuff (r : List Byte) :
    ∀ (s : State), s.rxActive = true → s.rxMask = 0 → s.rxLen + r.length ≤ s.params.rxCap →
      Receives (stuff r) s (storeRun r s) := by
  induction r using scan_induction with
  | nil => intro s _ _ _; exact .nil s
  | plain d r hd ih =>
    intro s hactive hmask hroom
    rw [List.length_cons] at hroom
    have hbyte : receiveByte d s = storeRx d s := by
      have h := receiveByte_emitByte (d := d) hactive (by omega) (by simp [hmask, hd])
      rwa [emitByte_plain hd, setMask_eq_self (by simp [hmask])] at h
    rw [stuff_cons_plain r hd, ← storeRun_storeRx]
    exact .cons hbyte (ih (storeRx d s) hactive hmask (by simp; omega))
  | window d r hd ih =>
    intro s hactive hmask hroom
    have hsplit : (d :: r.take 3) ++ r.drop 3 = d :: r := by simp
    rw [← hsplit, List.length_append] at hroom
    have hescape := receiveByte_escapeByte (windowMask (d :: r.take 3)) hactive
    have hwindow := receives_window (d :: r.take 3) s (by simp) hactive (by omega)
    rw [setMask_eq_self hmask] at hwindow
    have hrest := ih (storeRun (d :: r.take 3) s) hactive hmask (by simp only [storeRun]; omega)
    rw [storeRun_append, hsplit] at hrest
    rw [stuff_cons_window r hd]
    exact .append (.cons hescape hwindow) hrest

/-- Settles O24: the frame, the mask and every byte below are the start's, and the run is read back
from where it was stored. -/
theorem destuffingInvertsStuffing : Obligations.DestuffingInvertsStuffing := by
  intro r s hactive hmask hroom
  obtain ⟨q, h⟩ := receives_stuff r s hactive hmask hroom
  exact ⟨_, h, hactive, hmask, rfl, Memory.readBytes_writeBytes r s.rxBuf s.rxLen,
    fun a ha => Memory.read_writeBytes_outside r s.rxBuf s.rxLen a (.inl ha)⟩

/-! ### What ENCODE refuses (41 R76, R79, R81) -/

theorem isControl_iff_topBits : ∀ b : Byte, isControl b = true ↔ b.extractLsb' 6 2 = 0b11 := by
  decide

theorem not_isControl_of_topBits {b : Byte} (h : b.extractLsb' 6 2 ≠ 0b11) :
    isControl b = false :=
  Bool.eq_false_iff.mpr fun hcontrol => h ((isControl_iff_topBits b).mp hcontrol)

theorem encodeResult_badCommand (p : Params) {cmd : Byte} (e c : Bool) (payload : List Byte)
    (hcmd : cmd.extractLsb' 6 2 = 0b11) : encodeResult p cmd e c payload = .badCommand := by
  rw [encodeResult, if_pos ((isControl_iff_topBits cmd).mpr hcmd)]

/-- With a command that is no control byte, either length above its capacity is too large. -/
theorem encodeResult_tooLarge {p : Params} {cmd : Byte} {e c : Bool} {payload : List Byte}
    (hcmd : cmd.extractLsb' 6 2 ≠ 0b11)
    (hover : p.payloadCap < payload.length ∨
      p.txCap < (wireFrame p cmd e c payload).length) :
    encodeResult p cmd e c payload = .tooLarge := by
  rw [encodeResult, if_neg (by simp [not_isControl_of_topBits hcmd])]
  split_ifs with hpayload hframe
  · rfl
  · rfl
  · exact absurd hover (not_or.mpr ⟨hpayload, hframe⟩)

/-- A refused ENCODE answers why, and writes nothing. -/
theorem exec_encode_refused {cmd : Byte} {e c : Bool} {payload : List Byte} {s : State}
    {why : EncodeResult} (hresult : encodeResult s.params cmd e c payload = why)
    (hwhy : why ≠ .ok) : ∃ t, exec (.encode cmd e c payload) s = .next t ∧
      t.result = .encode why ∧ SameBlock s t := by
  subst hresult
  obtain ⟨hok, -⟩ | ⟨-, hframe⟩ := encodeFrame_spec cmd e c payload s
  · exact absurd hok hwhy
  · exact ⟨_, rfl, rfl, by rw [hframe]; exact sameBlock_setResult _ s⟩

/-- Settles O17: the command is checked first, and either failure decides the result. -/
theorem encodeChecksItsArguments : Obligations.EncodeChecksItsArguments := by
  intro cmd e c payload s hbad
  by_cases hcmd : cmd.extractLsb' 6 2 = 0b11
  · rw [if_pos hcmd]
    exact exec_encode_refused (encodeResult_badCommand s.params e c payload hcmd) (by decide)
  · rw [if_neg hcmd]
    exact exec_encode_refused (encodeResult_tooLarge hcmd (.inl (hbad.resolve_left hcmd)))
      (by decide)

/-- Settles O18: whatever the payload's length, a frame over capacity is too large. -/
theorem encodeRefusesAFrameOverCapacity : Obligations.EncodeRefusesAFrameOverCapacity :=
  fun _ _ _ _ _ hcmd _ hover =>
    exec_encode_refused (encodeResult_tooLarge hcmd (.inr hover)) (by decide)

/-! ### What ENCODE stores (41 R75, R79, R80) -/

/-- The whole frame's length, 41 R79: four framing bytes, the run, and one byte a window. -/
theorem length_wireFrame (p : Params) (cmd : Byte) (e c : Bool) (payload : List Byte) :
    (wireFrame p cmd e c payload).length =
      4 + (payload.length + crcCount c) + esc (runOf p cmd c payload) := by
  rw [wireFrame_length, length_stuff, runOf_length, ← Nat.add_assoc]

/-- An ENCODE that passes its checks stores the whole frame. -/
theorem exec_encode_ok {cmd : Byte} {e c : Bool} {payload : List Byte} {s : State}
    (hok : encodeResult s.params cmd e c payload = .ok) :
    exec (.encode cmd e c payload) s =
      .next (setResult (.encode .ok) (storeTx (wireFrame s.params cmd e c payload) s)) := by
  obtain ⟨-, hframe⟩ | ⟨hno, -⟩ := encodeFrame_spec cmd e c payload s
  · rw [exec, execEncode, hok, hframe]
  · exact absurd hok hno

/-- A legal ENCODE whose frame fits passes every check. -/
theorem encodeResult_ok {p : Params} {cmd : Byte} {e c : Bool} {payload : List Byte}
    (hcmd : cmd.extractLsb' 6 2 ≠ 0b11) (hpayload : payload.length ≤ p.payloadCap)
    (hfits : 4 + (payload.length + crcCount c) + esc (runOf p cmd c payload) ≤ p.txCap) :
    encodeResult p cmd e c payload = .ok :=
  (encodeResult_ok_iff p cmd e c payload).mpr
    ⟨not_isControl_of_topBits hcmd, hpayload, (length_wireFrame p cmd e c payload).trans_le hfits⟩

/-- The middle of a byte sequence stored in three parts. -/
theorem Memory.readBytes_writeBytes_middle (m : Memory) (i : Nat) (a b c : List Byte) :
    (m.writeBytes i (a ++ b ++ c)).readBytes (i + a.length) b.length = b := by
  rw [List.append_assoc, Memory.writeBytes_append, Memory.writeBytes_append]
  refine (Memory.readBytes_congr b.length _ fun k hk => ?_).trans
    (Memory.readBytes_writeBytes b (m.writeBytes i a) (i + a.length))
  exact Memory.read_writeBytes_outside c _ _ _ (.inl (by omega))

/-- Settles O19: the bytes read back are those of the wire frame by position, and ENCODE keeps the
receive side, the stack and the flags. -/
theorem encodeStoresTheFrame : Obligations.EncodeStoresTheFrame := by
  intro cmd e c payload s hcmd hpayload hfits
  have hlen := length_wireFrame s.params cmd e c payload
  have hread (k : Nat) (hk : k < (wireFrame s.params cmd e c payload).length) :
      (s.txBuf.writeBytes 0 (wireFrame s.params cmd e c payload)).read k =
        (wireFrame s.params cmd e c payload)[k] := by
    simpa using s.txBuf.read_writeBytes_inside 0 _ hk
  refine ⟨_, exec_encode_ok (encodeResult_ok hcmd hpayload hfits), rfl, hlen,
    hread 0 (by omega), hread 1 (by omega), hread 2 (by omega), ?run, ?tail,
    fun a ha => Memory.read_writeBytes_outside _ s.txBuf 0 a (.inr (by simpa using ha)),
    ⟨fun _ => rfl, rfl, rfl, rfl, rfl, rfl⟩, ⟨rfl, rfl, rfl, rfl, rfl⟩, ⟨fun _ => rfl, rfl⟩,
    ⟨rfl, rfl⟩⟩
  case run =>
    have hrun : (wireFrame s.params cmd e c payload).length - 4 =
        (stuff (runOf s.params cmd c payload)).length := by
      rw [wireFrame_length, Nat.add_sub_cancel_left]
    rw [setResult_txLen, storeTx_txLen, hrun]
    exact Memory.readBytes_writeBytes_middle s.txBuf 0
      [headByte c e, fold (BitVec.ofNat 8 payload.length), cmd] _ [tailByte c e]
  case tail =>
    refine (hread _ (by rw [setResult_txLen, storeTx_txLen]; omega)).trans ?_
    simp [wireFrame, tailByte]

/-- Settles O20: a run is at most one byte longer than the payload, and a window for each four of
its bytes is what the default allows for. -/
theorem defaultTxCapFitsEveryLegalFrame : Obligations.DefaultTxCapFitsEveryLegalFrame := by
  intro cmd e c payload s hcmd hpayload hcap
  have hesc := esc_le (runOf s.params cmd c payload)
  have hcheck : crcCount c ≤ 1 := by cases c <;> decide
  rw [runOf_length] at hesc
  unfold defaultTxCap at hcap
  exact ⟨_, exec_encode_ok (encodeResult_ok hcmd hpayload (by omega)), rfl⟩

/-- What an ENCODE that answered `ENC_OK` leaves to be read out is the wire frame. -/
theorem txFrame_of_encode_ok {cmd : Byte} {e c : Bool} {payload : List Byte} {s t : State}
    (h : exec (.encode cmd e c payload) s = .next t) (hresult : t.result = .encode .ok) :
    txFrame t = wireFrame s.params cmd e c payload := by
  have hok : encodeResult s.params cmd e c payload = .ok := by
    cases h
    exact Result.encode.inj hresult
  cases (exec_encode_ok hok).symm.trans h
  exact txFrame_storeTx _ _ s

/-- Settles O21: the result and the frame are functions of the parameters and the operands. -/
theorem encodeReadsNoState : Obligations.EncodeReadsNoState := by
  intro cmd e c payload s s' t t' hparams h h'
  have hresult : t.result = t'.result := by
    cases h
    cases h'
    simp [hparams]
  refine ⟨hresult, fun hok => ?_⟩
  rw [txFrame_of_encode_ok h hok, txFrame_of_encode_ok h' (hresult.symm.trans hok), hparams]

end Sys2Proof.Machine

/-! ## 42_decoder.md: what each byte from the wire does, and the round trip of a frame -/

namespace Sys2Proof.Machine

/-! ### A byte's rule, by its range (42 R85, R86) -/

theorem receiveByte_of_data {b : Byte} (h : b.toNat ≤ 0xBF) (s : State) :
    receiveByte b s = receiveData b s := by
  rw [receiveByte, classify_of_data b h]

theorem receiveByte_of_tail {b : Byte} (hlo : 0xC0 ≤ b.toNat) (hhi : b.toNat ≤ 0xC3) (s : State) :
    receiveByte b s = receiveTail b[1] b[0] s := by
  rw [receiveByte, classify_of_tail b hlo hhi]

theorem receiveByte_of_head {b : Byte} (hlo : 0xC4 ≤ b.toNat) (hhi : b.toNat ≤ 0xC7) (s : State) :
    receiveByte b s = receiveHead b[1] b[0] s := by
  rw [receiveByte, classify_of_head b hlo hhi]

theorem receiveByte_of_escape {b : Byte} (hlo : 0xD0 ≤ b.toNat) (hhi : b.toNat ≤ 0xDF)
    (s : State) : receiveByte b s = receiveEscape (b.extractLsb' 0 4) s := by
  rw [receiveByte, classify_of_escape b hlo hhi]

theorem receiveByte_of_unknown {b : Byte}
    (h : 0xC8 ≤ b.toNat ∧ b.toNat ≤ 0xCF ∨ 0xE0 ≤ b.toNat) (s : State) :
    receiveByte b s = receiveUnknown s := by
  rw [receiveByte, classify_of_unknown b h]

/-- Settles O13: a byte's row is one of the operations that feed the byte. -/
theorem rxByteIsItsClassRow : Obligations.RxByteIsItsClassRow := fun b s =>
  ⟨_, rfl, exec_of_wireByte (wireByte_decodeWire b) s⟩

/-! ### Outside a frame (42 R87) -/

/-- Outside a frame every byte but a HEAD is ignored. -/
theorem receiveByte_outside {b : Byte} {s : State} (hout : s.rxActive = false)
    (hhead : ¬(0xC4 ≤ b.toNat ∧ b.toNat ≤ 0xC7)) : receiveByte b s = s := by
  obtain ⟨-, h⟩ | ⟨-, -, h⟩ | ⟨hlo, hhi, -⟩ | ⟨-, -, h⟩ | ⟨-, h⟩ := receiveByte_cases b s
  · simp [h, receiveData, hout]
  · simp [h, receiveTail, hout]
  · exact absurd ⟨hlo, hhi⟩ hhead
  · simp [h, receiveEscape, hout]
  · simp [h, receiveUnknown, hout]

theorem receiveByte_outside_sameBlock {b : Byte} {s : State} (r : Result)
    (hout : s.rxActive = false) (hhead : ¬(0xC4 ≤ b.toNat ∧ b.toNat ≤ 0xC7)) :
    SameBlock s (setResult r (receiveByte b s)) := by
  rw [receiveByte_outside hout hhead]
  exact sameBlock_setResult r s

/-- Settles O14: a byte other than a HEAD is ignored outside a frame, an operation with no byte
keeps `rx_active`, and RESET clears it. -/
theorem onlyHeadEntersAFrame : Obligations.OnlyHeadEntersAFrame := by
  intro i s t hout h hin
  cases hb : wireByte i with
  | some b =>
    cases (exec_of_wireByte hb s).symm.trans h
    by_contra hnone
    have hhead : ¬(0xC4 ≤ b.toNat ∧ b.toNat ≤ 0xC7) := fun hrange => hnone ⟨b, rfl, hrange⟩
    rw [receiveByte_outside hout hhead, setResult_rxActive, hout] at hin
    cases hin
  | none =>
    have hreset : i ≠ .reset := by rintro rfl; cases h; cases hin
    obtain ⟨-, hrx, -⟩ := operation_kept h hreset
    rw [(hrx hb).active, hout] at hin
    cases hin

/-- Settles O2: no TAIL is a HEAD. -/
theorem tailOutsideAFrameDoesNothing : Obligations.TailOutsideAFrameDoesNothing :=
  fun _ _ s hb _ hhi hout =>
    ⟨_, exec_of_wireByte hb s, receiveByte_outside_sameBlock .none hout (by omega)⟩

/-! ### HEAD, ESCAPE and the unknown bytes (42 R88, R90, R91) -/

/-- Settles O1: starting a frame leaves all but the six elements it writes. -/
theorem headStartsAFrame : Obligations.HeadStartsAFrame := by
  intro i b s hb hlo hhi
  refine ⟨_, exec_of_wireByte hb s, ?_⟩
  rw [receiveByte_of_head hlo hhi]
  obtain ⟨htx, hev⟩ := receiveHead_keeps b[1] b[0] s
  exact ⟨rfl, rfl, rfl, rfl, rfl, rfl, fun _ => rfl, rfl, rfl, rfl, rfl,
    (htx.setResult .none).sameTx, (hev.setResult .none).sameEvents, ⟨rfl, rfl⟩⟩

/-- What is not of the receive side is kept when only `rx_buf`, `rx_len`, `rx_mask`, `rx_active` and
the result are written: by an ESCAPE, an unknown byte, a stored byte and a dropped frame. -/
theorem receiveSide_written (s : State) (buf : Memory) (len : Nat) (mask : Mask) (active : Bool)
    (r : Result) :
    let t := { s with
      rxBuf := buf, rxLen := len, rxMask := mask, rxActive := active, result := r }
    SamePacket s t ∧ SameTx s t ∧ SameEvents s t ∧ SameErrors s t :=
  ⟨⟨rfl, rfl, rfl, rfl, rfl⟩, ⟨fun _ => rfl, rfl⟩, ⟨fun _ => rfl, rfl⟩, ⟨rfl, rfl⟩⟩

/-- An ESCAPE writes `rx_mask` and nothing else, and outside a frame with its own value. -/
theorem receiveEscape_eq (m : Mask) (s : State) :
    receiveEscape m s = setMask (if s.rxActive then m else s.rxMask) s := by
  obtain ⟨hactive, h⟩ | ⟨hactive, h⟩ := receiveEscape_spec m s
  · rw [h, setMask_eq_self (by simp [hactive])]
  · rw [h, if_pos hactive]

/-- Settles O3: only the mask is written. -/
theorem escapeLoadsTheMask : Obligations.EscapeLoadsTheMask := by
  intro i b s hb hlo hhi
  refine ⟨_, exec_of_wireByte hb s, ?_⟩
  rw [receiveByte_of_escape hlo hhi, receiveEscape_eq]
  exact ⟨rfl, fun _ => rfl, rfl, rfl, rfl, rfl, receiveSide_written s _ _ _ _ _⟩

theorem receiveUnknown_in_frame {s : State} (hactive : s.rxActive = true) :
    receiveUnknown s = dropFrame s := by
  rw [receiveUnknown, if_pos hactive]

/-- Settles O4: in a frame the frame is dropped, outside one the byte is ignored. -/
theorem unknownByteDropsTheFrame : Obligations.UnknownByteDropsTheFrame := by
  intro i b s hb hrange
  refine ⟨_, exec_of_wireByte hb s, fun hin => ?_,
    fun hout => receiveByte_outside_sameBlock .none hout (by omega)⟩
  rw [receiveByte_of_unknown hrange, receiveUnknown_in_frame hin]
  exact ⟨rfl, rfl, rfl, fun _ => rfl, rfl, rfl, receiveSide_written s _ _ _ _ _⟩

/-! ### Data bytes (42 R92, R93) -/

theorem receiveData_stored {s : State} (b : Byte) (hactive : s.rxActive = true)
    (hroom : s.rxLen < s.params.rxCap) :
    receiveData b s = storeRx (restored b s) (setMask (s.rxMask >>> 1) s) := by
  rw [receiveData, if_pos hactive, if_pos hroom]

theorem receiveData_overflow {s : State} (b : Byte) (hactive : s.rxActive = true)
    (hfull : s.params.rxCap ≤ s.rxLen) : receiveData b s = dropFrame (setRxOverflow s) := by
  rw [receiveData, if_pos hactive, if_neg (Nat.not_lt.mpr hfull)]

/-- Settles O5: the byte is written at `rx_len` as the mask's bit says; outside a frame it is
ignored. -/
theorem dataByteIsRestoredAndStored : Obligations.DataByteIsRestoredAndStored := by
  intro i b s hb hdata hroom
  refine ⟨_, exec_of_wireByte hb s, fun hin => ?_,
    fun hout => receiveByte_outside_sameBlock .none hout (by omega)⟩
  rw [receiveByte_of_data hdata, receiveData_stored b hin (hroom hin)]
  exact ⟨rfl, Memory.read_write_same s.rxBuf s.rxLen (restored b s),
    fun a ha => Memory.read_write_other s.rxBuf (restored b s) ha, rfl, hin, rfl, rfl,
    receiveSide_written s _ _ _ _ _⟩

/-- Settles O6: with the buffer full the frame is dropped and the flag set. -/
theorem dataByteOverflowIsLatched : Obligations.DataByteOverflowIsLatched := by
  intro i b s hb hdata hin hfull
  refine ⟨_, exec_of_wireByte hb s, ?_⟩
  rw [receiveByte_of_data hdata, receiveData_overflow b hin hfull.ge]
  exact ⟨rfl, rfl, rfl, rfl, fun _ => rfl, rfl, rfl, ⟨rfl, rfl, rfl, rfl, rfl⟩,
    ⟨fun _ => rfl, rfl⟩, ⟨fun _ => rfl, rfl⟩, rfl⟩

/-! ### A TAIL whose checks fail (42 R94 to R99) -/

theorem receiveTail_rejected {c e : Bool} {s : State} (hactive : s.rxActive = true)
    (hcheck : checkFrame c e s ≠ .accept) : receiveTail c e s = closeFrame s := by
  obtain ⟨hout, -⟩ | ⟨-, hok, -⟩ | ⟨-, -, h⟩ := receiveTail_spec c e s
  · exact absurd hactive (by simp [hout])
  · exact absurd hok hcheck
  · exact h

theorem frameDropped_closeFrame (r : Result) (s : State) :
    FrameDropped s (setResult r (closeFrame s)) := by
  obtain ⟨hpacket, htx, hev, herr⟩ := receiveSide_written s s.rxBuf s.rxLen 0 false r
  exact ⟨rfl, rfl, fun _ => rfl, rfl, rfl, rfl, hpacket, htx, hev, herr⟩

/-- Whichever of its checks fails, a TAIL in a frame drops the frame. -/
theorem exec_tail_rejected {i : Instr} {b : Byte} {s : State} (hb : wireByte i = some b)
    (hlo : 0xC0 ≤ b.toNat) (hhi : b.toNat ≤ 0xC3) (hactive : s.rxActive = true)
    (hcheck : checkFrame b[1] b[0] s ≠ .accept) : ∃ t, exec i s = .next t ∧ FrameDropped s t := by
  refine ⟨_, exec_of_wireByte hb s, ?_⟩
  rw [receiveByte_of_tail hlo hhi, receiveTail_rejected hactive hcheck]
  exact frameDropped_closeFrame .none s

/-- Settles O7: an accepted TAIL agrees with its HEAD. -/
theorem tailMismatchDropsTheFrame : Obligations.TailMismatchDropsTheFrame := by
  intro i b s hb hlo hhi hactive hbad
  refine exec_tail_rejected hb hlo hhi hactive fun hok => ?_
  obtain ⟨⟨hc, he⟩, -⟩ := (checkFrame_accept_iff _ _ s).mp hok
  exact hbad.elim (absurd hc) (absurd he)

/-- Settles O8: an accepted frame has two bytes stored and a Length within PAYLOAD_CAP. -/
theorem tailBadLengthDropsTheFrame : Obligations.TailBadLengthDropsTheFrame := by
  intro i b s hb hlo hhi hactive hbad
  refine exec_tail_rejected hb hlo hhi hactive fun hok => ?_
  obtain ⟨-, hstored, hlength, -⟩ := (checkFrame_accept_iff _ _ s).mp hok
  exact hbad.elim (Nat.not_lt.mpr hstored) (Nat.not_lt.mpr hlength)

/-- Settles O9: an accepted frame fits, and has the count that STRICT_LENGTH asks for. -/
theorem tailBadCountDropsTheFrame : Obligations.TailBadCountDropsTheFrame := by
  intro i b s hb hlo hhi hactive hbad
  refine exec_tail_rejected hb hlo hhi hactive fun hok => ?_
  obtain ⟨-, -, -, hfits, hcount, -⟩ := (checkFrame_accept_iff _ _ s).mp hok
  exact hbad.elim (Nat.not_lt.mpr hfits) fun ⟨hstrict, hne⟩ => hne (hcount hstrict)

/-- Settles O10: an accepted frame with C = 1 has the right check byte. -/
theorem tailBadCrcDropsTheFrame : Obligations.TailBadCrcDropsTheFrame := by
  intro i b s hb hlo hhi hactive hc hbad
  refine exec_tail_rejected hb hlo hhi hactive fun hok => ?_
  obtain ⟨-, -, -, -, -, hcrc⟩ := (checkFrame_accept_iff _ _ s).mp hok
  exact hbad (hcrc hc)

/-! ### A TAIL whose checks pass (42 R95, R100, R101) -/

theorem receiveTail_accepted {c e : Bool} {s : State} (hactive : s.rxActive = true)
    (hcheck : checkFrame c e s = .accept) :
    receiveTail c e s = acceptFrame c e (closeFrame s) := by
  rw [receiveTail, if_pos hactive, hcheck]

/-- An accepted frame leaves the packet latched, and the receive side as its TAIL found it. -/
theorem acceptFrame_rxKept (c e : Bool) (s : State) :
    RxKept (latchPacket (s.rxBuf.read 1) (rxLength s) e c (closeFrame s))
      (acceptFrame c e (closeFrame s)) :=
  pushEvent_rxKept requestReceived _

/-- A TAIL in a frame that passes the checks accepts it. -/
theorem receiveByte_tail_accepted {b : Byte} {s : State} (hlo : 0xC0 ≤ b.toNat)
    (hhi : b.toNat ≤ 0xC3) (hactive : s.rxActive = true)
    (hcheck : checkFrame b[1] b[0] s = .accept) :
    receiveByte b s = acceptFrame b[1] b[0] (closeFrame s) := by
  rw [receiveByte_of_tail hlo hhi, receiveTail_accepted hactive hcheck]

/-- Settles O12: a dropped frame and an accepted one have both been closed. -/
theorem tailAlwaysEndsTheFrame : Obligations.TailAlwaysEndsTheFrame := by
  intro i b s hb hlo hhi hactive
  by_cases hcheck : checkFrame b[1] b[0] s = .accept
  · refine ⟨_, exec_of_wireByte hb s, ?_⟩
    rw [receiveByte_tail_accepted hlo hhi hactive hcheck]
    have hkept := (acceptFrame_rxKept b[1] b[0] s).setResult .none
    exact ⟨hkept.active, hkept.mask, hkept.len, hkept.sameRx.bytes⟩
  · obtain ⟨t, hexec, hdropped⟩ := exec_tail_rejected hb hlo hhi hactive hcheck
    exact ⟨t, hexec, hdropped.active, hdropped.mask, hdropped.len, hdropped.bytes⟩

/-- A push has the three outcomes of 43 R105, whatever other elements were written beside it. -/
theorem pushEvent_pushedOnto (code : EventCode) (r : Result) {s u : State} (hkept : EvKept s u)
    (hflag : u.errEvFull = s.errEvFull) :
    PushedOnto code s (setResult r (pushEvent code u)) := by
  have ⟨hslots, hsp⟩ := hkept.sameEvents
  unfold PushedOnto
  rw [← hkept.params, ← hkept.sp, ← hkept.stk, ← hflag]
  obtain ⟨hfull, -, h⟩ | ⟨hroom, hdup, -, h⟩ | ⟨hroom, hnew, -, h⟩ := pushEvent_spec code u <;>
    rw [h]
  · have hno : ¬u.sp < u.params.evCap - 1 := Nat.not_lt.mpr hfull
    exact ⟨fun _ => ⟨⟨hslots, hsp⟩, rfl⟩, fun hroom => absurd hroom hno,
      fun hroom => absurd hroom hno⟩
  · exact ⟨fun hfull => absurd hfull hroom.ne, fun _ _ => ⟨⟨hslots, hsp⟩, rfl⟩,
      fun _ hnew => absurd hdup hnew⟩
  · exact ⟨fun hfull => absurd hfull hroom.ne, fun _ hdup => absurd hdup hnew,
      fun _ _ => ⟨rfl, Slots.read_write_same .., fun _ ha => Slots.read_write_other _ _ ha, rfl⟩⟩

/-- Settles O11: the hypotheses are the checks of 42 R94, and an accepted frame is latched before
its push. -/
theorem goodTailLatchesAndSignals : Obligations.GoodTailLatchesAndSignals := by
  intro i b s hb hlo hhi hactive hc he hstored hlength hfits hcount hcrc
  have hcheck : checkFrame b[1] b[0] s = .accept :=
    (checkFrame_accept_iff _ _ s).mpr ⟨⟨hc, he⟩, hstored, hlength, hfits, hcount, hcrc⟩
  refine ⟨_, exec_of_wireByte hb s, ?_⟩
  rw [receiveByte_tail_accepted hlo hhi hactive hcheck]
  have hrx := (acceptFrame_rxKept b[1] b[0] s).setResult .none
  have htx := (acceptFrame_txKept b[1] b[0] s).setResult .none
  refine ⟨hrx.cmd, hrx.pktLen, hrx.order, hrx.crc, hrx.valid, ?payload, hrx.active, hrx.mask,
    hrx.sameRx.bytes, hrx.len, hrx.headC, hrx.headE, htx.sameTx, ?overflow, ?push⟩
  case payload =>
    rw [payloadOf, hrx.buf, hrx.pktLen]
    rfl
  case overflow => simp [acceptFrame]
  case push => exact pushEvent_pushedOnto requestReceived .none ⟨rfl, rfl, rfl⟩ rfl

/-! ### The round trip (42 R103) -/

/-- What the data bytes of a frame stand for: the folded Length, the Command byte and the run. -/
def frameData (p : Params) (cmd : Byte) (c : Bool) (payload : List Byte) : List Byte :=
  fold (BitVec.ofNat 8 payload.length) :: cmd :: runOf p cmd c payload

theorem length_frameData (p : Params) (cmd : Byte) (c : Bool) (payload : List Byte) :
    (frameData p cmd c payload).length = 2 + payload.length + crcCount c := by
  simp only [frameData, List.length_cons, runOf_length]
  omega

theorem isControl_of_le : ∀ b : Byte, b.toNat ≤ 191 → isControl b = false := by decide

theorem toNat_payloadLength {payload : List Byte} (h : payload.length ≤ 191) :
    (BitVec.ofNat 8 payload.length).toNat = payload.length := by
  rw [BitVec.toNat_ofNat]
  omega

/-- The Length and Command bytes of a legal frame collide with no marker, so they are stuffed to
themselves: the whole frame is a HEAD, one stuffed run and a TAIL. -/
theorem wireFrame_eq_stuff (p : Params) {cmd : Byte} (e c : Bool) {payload : List Byte}
    (hcmd : isControl cmd = false) (hlength : payload.length ≤ 191) :
    wireFrame p cmd e c payload =
      [headByte c e] ++ stuff (frameData p cmd c payload) ++ [tailByte c e] := by
  have hfold : isControl (fold (BitVec.ofNat 8 payload.length)) = false := by
    rw [isControl_fold]
    exact isControl_of_le _ ((toNat_payloadLength hlength).trans_le hlength)
  rw [frameData, stuff_cons_plain _ hfold, stuff_cons_plain _ hcmd]
  rfl

/-- The receiver before the TAIL: the frame opened, and its data stored. -/
def receivedFrame (cmd : Byte) (e c : Bool) (payload : List Byte) (v : State) : State :=
  storeRun (frameData v.params cmd c payload) (openFrame c e v)

/-- The HEAD and the data bytes of a frame bring the receiver there from any state. -/
theorem receives_frameData (cmd : Byte) (e c : Bool) (payload : List Byte) (v : State)
    (hroom : 2 + payload.length + crcCount c ≤ v.params.rxCap) :
    Receives ([headByte c e] ++ stuff (frameData v.params cmd c payload)) v
      (receivedFrame cmd e c payload v) := by
  have hhead : receiveByte (headByte c e) v = openFrame c e v := by
    rw [receiveByte, classify_headByte]
    rfl
  refine .cons hhead (receives_stuff _ _ rfl rfl ?_)
  rw [length_frameData]
  simpa using hroom

section ReceivedFrame
variable (cmd : Byte) (e c : Bool) (payload : List Byte) (v : State)

theorem receivedFrame_rxLen :
    (receivedFrame cmd e c payload v).rxLen = 2 + payload.length + crcCount c := by
  simp [receivedFrame, storeRun, length_frameData]

theorem receivedFrame_read {k : Nat} (hk : k < (frameData v.params cmd c payload).length) :
    (receivedFrame cmd e c payload v).rxBuf.read k = (frameData v.params cmd c payload)[k] := by
  simpa [receivedFrame, storeRun] using v.rxBuf.read_writeBytes_inside 0 _ hk

theorem receivedFrame_rxLength :
    rxLength (receivedFrame cmd e c payload v) = BitVec.ofNat 8 payload.length := by
  rw [rxLength, receivedFrame_read cmd e c payload v (k := 0) (by simp [frameData])]
  exact fold_fold _

theorem receivedFrame_cmd : (receivedFrame cmd e c payload v).rxBuf.read 1 = cmd :=
  receivedFrame_read cmd e c payload v (k := 1) (by simp [frameData])

theorem receivedFrame_payload :
    (receivedFrame cmd e c payload v).rxBuf.readBytes 2 payload.length = payload :=
  v.rxBuf.readBytes_writeBytes_middle 0 [fold (BitVec.ofNat 8 payload.length), cmd] payload _

theorem receivedFrame_check :
    (receivedFrame cmd e true payload v).rxBuf.read (2 + payload.length) =
      frameCrc v.params (BitVec.ofNat 8 payload.length) cmd payload := by
  rw [receivedFrame_read cmd e true payload v (by simp [length_frameData, crcCount])]
  simp [frameData, runOf, Nat.add_comm 2]

/-- The frame of a legal packet passes every check of 42 R94, with either STRICT_LENGTH and any
CRC_FN. -/
theorem checkFrame_receivedFrame (hlegal : v.params.payloadCap ≤ 191)
    (hlength : payload.length ≤ v.params.payloadCap)
    (hroom : 2 + payload.length + crcCount c ≤ v.params.rxCap) :
    checkFrame c e (receivedFrame cmd e c payload v) = .accept := by
  have hL : (rxLength (receivedFrame cmd e c payload v)).toNat = payload.length := by
    rw [receivedFrame_rxLength, toNat_payloadLength (hlength.trans hlegal)]
  rw [checkFrame_accept_iff, hL, receivedFrame_rxLen]
  refine ⟨⟨rfl, rfl⟩, by omega, hlength, hroom, fun _ => rfl, fun hc => ?_⟩
  subst hc
  rw [receivedFrame_check, rxCrc, rxPayload, hL, receivedFrame_payload, receivedFrame_rxLength,
    receivedFrame_cmd]
  rfl

end ReceivedFrame

/-- A whole wire frame, fed to any state of a block that has room for it, is accepted: its packet is
latched beside the data it left in `rx_buf`. -/
theorem receiveBytes_wireFrame {cmd : Byte} (e c : Bool) {payload : List Byte} (v : State)
    (hcmd : isControl cmd = false) (hlegal : v.params.payloadCap ≤ 191)
    (hlength : payload.length ≤ v.params.payloadCap)
    (hroom : 2 + payload.length + crcCount c ≤ v.params.rxCap) :
    ∃ u, receiveBytes (wireFrame v.params cmd e c payload) v = .next u ∧
      RxKept (latchPacket cmd (BitVec.ofNat 8 payload.length) e c
        (closeFrame (receivedFrame cmd e c payload v))) u := by
  have htail : receiveByte (tailByte c e) (receivedFrame cmd e c payload v) =
      acceptFrame c e (closeFrame (receivedFrame cmd e c payload v)) := by
    rw [receiveByte, classify_tailByte]
    exact receiveTail_accepted rfl (checkFrame_receivedFrame cmd e c payload v hlegal hlength hroom)
  rw [wireFrame_eq_stuff v.params e c hcmd (hlength.trans hlegal)]
  obtain ⟨q, hreceived⟩ :=
    (receives_frameData cmd e c payload v hroom).append (.cons htail (.nil _))
  have hkept := acceptFrame_rxKept c e (receivedFrame cmd e c payload v)
  rw [receivedFrame_cmd, receivedFrame_rxLength] at hkept
  exact ⟨_, hreceived, hkept.setResult q⟩

/-- An ENCODE that answered `ENC_OK` had operands that pass its checks. -/
theorem encodeResult_of_encode_ok {cmd : Byte} {e c : Bool} {payload : List Byte} {s t : State}
    (h : exec (.encode cmd e c payload) s = .next t) (hresult : t.result = .encode .ok) :
    encodeResult s.params cmd e c payload = .ok := by
  cases h
  exact Result.encode.inj hresult

/-- Settles O25: the frame ENCODE stored is fed whole, and the packet latched at its TAIL is the one
that was encoded. -/
theorem encodedFrameRoundTrips : Obligations.EncodedFrameRoundTrips := by
  intro cmd e c payload s t v hlegal hcap hparams hexec hresult
  obtain ⟨hcmd, hlength, -⟩ :=
    (encodeResult_ok_iff s.params cmd e c payload).mp (encodeResult_of_encode_ok hexec hresult)
  have hpayloadCap := hlegal.payload
  have hcheck : crcCount c ≤ 1 := by cases c <;> decide
  rw [txFrame_of_encode_ok hexec hresult, ← hparams]
  rw [← hparams] at hcap hlength hpayloadCap
  obtain ⟨u, hreceived, hpacket⟩ :=
    receiveBytes_wireFrame e c v hcmd hpayloadCap hlength (by omega)
  have hlen : u.pktLen.toNat = payload.length := by
    rw [hpacket.pktLen]
    exact toNat_payloadLength (hlength.trans hpayloadCap)
  refine ⟨u, hreceived, hpacket.valid, hpacket.cmd, hpacket.order, hpacket.crc, hlen, ?_⟩
  rw [payloadOf, hlen, hpacket.buf]
  exact receivedFrame_payload cmd e c payload v

end Sys2Proof.Machine

/-! ## 43_event_stack.md: a push, a pop, and the driver's loop over the live events -/

namespace Sys2Proof.Machine

/-! ### One push (43 R105, R109) -/

/-- At most full, a push answers full exactly when the stack is full (10 R27, I-2). -/
theorem pushResult_of_depth (code : EventCode) {s : State} (hdepth : s.sp ≤ s.params.evCap - 1) :
    pushResult code s = if s.sp = s.params.evCap - 1 then .full
      else if s.stk.read s.sp = code then .dup else .stored := by
  rw [pushResult, if_congr hdepth.lt_iff_ne rfl rfl, ite_not]

/-- Settles O26: the result by the depth, the stack by the three outcomes of a push. -/
theorem evPushTestsThenStores : Obligations.EvPushTestsThenStores := by
  intro code s hdepth
  have hrx := (pushEvent_rxKept code s).setResult (.push (pushResult code s))
  have htx := (pushEvent_txKept code s).setResult (.push (pushResult code s))
  exact ⟨_, rfl, congrArg Result.push (pushResult_of_depth code hdepth),
    pushEvent_pushedOnto code _ (.refl s) rfl, pushEvent_errRxOvf code s,
    hrx.sameRx, hrx.samePacket, htx.sameTx⟩

/-! ### One pop (43 R106) -/

@[simp] theorem popEvent_sp (s : State) : (popEvent s).sp = s.sp - 1 := by
  obtain ⟨hempty, -, h⟩ | ⟨-, -, h⟩ := popEvent_spec s <;> rw [h]
  · simp [hempty]
  · rfl

/-- Settles O27: a pop moves `sp` alone. -/
theorem evPopAnswersTheTop : Obligations.EvPopAnswersTheTop := by
  intro s
  have hrx := (popEvent_rxKept s).setResult (.event (popResult s))
  have htx := (popEvent_txKept s).setResult (.event (popResult s))
  refine ⟨_, rfl, rfl, ?depth, ?slots, hrx.sameRx, hrx.samePacket, htx.sameTx,
    ⟨popEvent_errRxOvf s, popEvent_errEvFull s⟩⟩
  case depth =>
    rw [setResult_sp, popEvent_sp]
    split <;> omega
  case slots => exact fun i => by rw [setResult_stk, popEvent_stk]

/-! ### A push and what follows it (43 R112) -/

/-- A push answers `PUSH_STORED` only when it grows the stack. -/
theorem pushEvent_of_stored {code : EventCode} {s : State} (h : pushResult code s = .stored) :
    pushEvent code s = stackGrow code s := by
  rw [pushEvent, h]

theorem stackGrow_top (code : EventCode) (s : State) :
    (stackGrow code s).stk.read (stackGrow code s).sp = code :=
  Slots.read_write_same ..

/-- Settles O28: the slot above the old `sp` is the one written, and the one popped. -/
theorem popAfterStoredPush : Obligations.PopAfterStoredPush := by
  intro code s t hexec hresult
  cases hexec
  rw [pushEvent_of_stored (Result.push.inj hresult)]
  refine ⟨_, rfl, ?answer, ?depth, ?slots⟩
  case answer => exact congrArg Result.event (stackGrow_top code s)
  case depth => simp
  case slots =>
    intro i hi
    rw [setResult_stk, popEvent_stk]
    exact Slots.read_write_other _ _ hi

/-- After an EV_PUSH with room the top is the code pushed, at most one above the old `sp`. -/
theorem exec_evPush_top {code : EventCode} {s t : State} (hroom : s.sp < s.params.evCap - 1)
    (hexec : exec (.evPush code) s = .next t) :
    t.stk.read t.sp = code ∧ t.sp ≤ s.sp + 1 ∧ t.params = s.params := by
  cases hexec
  obtain ⟨hfull, -⟩ | ⟨-, hdup, -, h⟩ | ⟨-, -, -, h⟩ := pushEvent_spec code s
  · exact absurd hroom (Nat.not_lt.mpr hfull)
  · rw [h]
    exact ⟨hdup, Nat.le_succ _, rfl⟩
  · rw [h]
    exact ⟨stackGrow_top code s, Nat.le_refl _, rfl⟩

/-- A push of the code at the top stores nothing. -/
theorem pushEvent_evKept_of_top {code : EventCode} {s : State} (htop : s.stk.read s.sp = code) :
    EvKept s (pushEvent code s) := by
  obtain ⟨-, -, h⟩ | ⟨-, -, -, h⟩ | ⟨-, hnew, -⟩ := pushEvent_spec code s
  · rw [h]
    exact ⟨rfl, rfl, rfl⟩
  · rw [h]
    exact .refl s
  · exact absurd htop hnew

/-- Settles O29: the first push leaves its code at the top. -/
theorem secondEqualPushStoresNothing : Obligations.SecondEqualPushStoresNothing := by
  intro code s t hroom hexec
  obtain ⟨htop, hdepth, hparams⟩ := exec_evPush_top hroom hexec
  have hkept := pushEvent_evKept_of_top htop
  have hfull : t.sp ≤ t.params.evCap - 1 := by rw [hparams]; omega
  have hresult := pushResult_of_depth code hfull
  rw [if_pos htop] at hresult
  exact ⟨_, rfl, hkept.sp, hkept.sp.trans_le hdepth, hkept.sameEvents.slots,
    congrArg Result.push hresult⟩

/-! ### The live events, and the loop that drains them (43 R110, 44 R115) -/

theorem liveEvents_of_empty {s : State} (h : s.sp = 0) : liveEvents s = [] := by
  simp [liveEvents, h]

/-- The newest live event is the one a pop answers; the others are live after it. -/
theorem liveEvents_eq_cons {s : State} (h : s.sp ≠ 0) :
    liveEvents s = popResult s :: liveEvents (popEvent s) := by
  obtain ⟨n, hn⟩ := Nat.exists_eq_succ_of_ne_zero h
  simp [liveEvents, popResult, hn, List.range_succ]

/-- No code among the live events is Idle. -/
def NoIdleLive (s : State) : Prop := ∀ k, 1 ≤ k → k ≤ s.sp → s.stk.read k ≠ idle

theorem NoIdleLive.popEvent {s : State} (h : NoIdleLive s) : NoIdleLive (popEvent s) := by
  intro k hk hlive
  rw [popEvent_sp] at hlive
  rw [popEvent_stk]
  exact h k hk (by omega)

theorem NoIdleLive.popResult_eq_idle_iff {s : State} (h : NoIdleLive s) :
    popResult s = idle ↔ s.sp = 0 := by
  obtain ⟨hempty, hidle, -⟩ | ⟨hlive, htop, -⟩ := popEvent_spec s
  · exact iff_of_true hidle hempty
  · exact iff_of_false (htop ▸ h s.sp (by omega) (Nat.le_refl _)) hlive

/-- The loop alone at work, with the pops for every live event and for the Idle after them, records
them all behind those it has already seen. -/
theorem driverLoop_drains (n : Nat) :
    ∀ (s : State) (seen : List EventCode), s.sp = n → NoIdleLive s →
      ∃ t, (driverLoop recordEvents (n + 1) seen).run [] s =
        .next (t, some (seen ++ liveEvents s)) ∧ t.sp = 0 := by
  induction n with
  | zero =>
    intro s seen hsp hlive
    rw [driverLoop_run_alone, if_pos (hlive.popResult_eq_idle_iff.mpr hsp),
      liveEvents_of_empty hsp, List.append_nil]
    exact ⟨_, rfl, by simp [hsp]⟩
  | succ n ih =>
    intro s seen hsp hlive
    have hne : s.sp ≠ 0 := by omega
    obtain ⟨t, hrun, ht⟩ := ih (setResult (.event (popResult s)) (popEvent s))
      (seen ++ [popResult s]) (by simp [hsp]) hlive.popEvent
    refine ⟨t, ?_, ht⟩
    rw [driverLoop_run_alone, if_neg (mt hlive.popResult_eq_idle_iff.mp hne), recordEvents,
      Program.bind_done, hrun, liveEvents_eq_cons hne, List.append_assoc]
    rfl

/-- Settles O30: the loop starts with nothing seen. -/
theorem driverDrainsNewestFirst : Obligations.DriverDrainsNewestFirst := fun s hlive =>
  driverLoop_drains s.sp s [] rfl hlive

end Sys2Proof.Machine

/-! ## 44_environment.md: a packet left alone, the driver's loop, the requester, the dispatch layer -/

namespace Sys2Proof.Machine

/-! ### A valid packet until the next HEAD (44 R131, 70 R162) -/

theorem masked_of_head : ∀ b : Byte, 0xC4 ≤ b.toNat → b.toNat ≤ 0xC7 → b &&& 0xFC = 0xC4 := by
  decide

/-- What the receive side shows of a packet is kept with it. -/
theorem RxKept.packetOf {s t : State} (k : RxKept s t) : packetOf t = packetOf s := by
  simp only [Machine.packetOf, payloadOf, k.valid, k.cmd, k.order, k.crc, k.pktLen, k.buf]

/-- Outside a frame, only a HEAD byte and RESET write the receive side (10 R29, 42 R87). -/
theorem operation_rxKept_outside {i : Instr} {s t : State} (h : exec i s = .next t)
    (hout : s.rxActive = false) (hhead : bringsHead i = false) (hreset : i ≠ .reset) :
    RxKept s t := by
  cases hb : wireByte i with
  | some b =>
    have hrange : ¬(0xC4 ≤ b.toNat ∧ b.toNat ≤ 0xC7) := fun ⟨hlo, hhi⟩ =>
      absurd (masked_of_head b hlo hhi) (by simpa [bringsHead, hb] using hhead)
    cases (exec_of_wireByte hb s).symm.trans h
    rw [receiveByte_outside hout hrange]
    exact (RxKept.refl s).setResult .none
  | none =>
    obtain ⟨-, hrx, -⟩ := operation_kept h hreset
    exact hrx hb

/-- Settles O16: a valid packet excludes a frame in progress (10 R27, I-5). -/
theorem packetStableUntilHead : Obligations.PacketStableUntilHead :=
  fun _ _ _ hinv hvalid h hhead hreset =>
    (operation_rxKept_outside h (hinv.rx.noFrame hvalid) hhead hreset).packetOf

/-! ### An event pushed while the driver's loop runs (44 R115, R116) -/

/-- Other agents' operations before the loop's first pop are operations before the whole loop. -/
theorem driverLoop_run_after {σ : Type} (transition : σ → Action → EventCode → Program σ)
    (bound : Nat) (cur : σ) (ops : List Instr) (s : State) :
    (driverLoop transition (bound + 1) cur).run [ops] s =
      andThen (applyAll ops s) fun t => (driverLoop transition (bound + 1) cur).run [] t := rfl

/-- The recording loop, with no operation of others before its first pop: it goes on after a pop
that answers an event. -/
theorem driverLoop_record_run {s : State} (hlive : popResult s ≠ idle) (bound : Nat)
    (seen : List EventCode) (others : List (List Instr)) :
    (driverLoop recordEvents (bound + 1) seen).run ([] :: others) s =
      (driverLoop recordEvents bound (seen ++ [popResult s])).run others
        (setResult (.event (popResult s)) (popEvent s)) := by
  simp [driverLoop, Program.run, exec, execEvPop, poppedEvent, hlive, recordEvents]

/-- Which events are live depends on `sp` and the slots up to it. -/
theorem liveEvents_congr {s t : State} (hsp : t.sp = s.sp)
    (hslots : ∀ k, k ≤ s.sp → t.stk.read k = s.stk.read k) : liveEvents t = liveEvents s := by
  unfold liveEvents
  rw [hsp]
  refine congrArg List.reverse (List.map_congr_left fun k hk => hslots (k + 1) ?_)
  exact List.mem_range.mp hk

theorem stackGrow_read_old (code : EventCode) (s : State) {k : Nat} (hk : k ≤ s.sp) :
    (stackGrow code s).stk.read k = s.stk.read k :=
  Slots.read_write_other _ _ (by omega)

/-- Growing the stack puts the code before the live events. -/
theorem liveEvents_stackGrow (code : EventCode) (s : State) :
    liveEvents (stackGrow code s) = code :: liveEvents s := by
  have htop : popResult (stackGrow code s) = code := stackGrow_top code s
  rw [liveEvents_eq_cons (by simp), htop]
  congr 1
  exact liveEvents_congr (by simp) fun k hk => by rw [popEvent_stk, stackGrow_read_old code s hk]

theorem NoIdleLive.stackGrow {s : State} (h : NoIdleLive s) {code : EventCode}
    (hcode : code ≠ idle) : NoIdleLive (stackGrow code s) := by
  intro k hk hlive
  obtain hold | rfl := Nat.le_succ_iff.mp hlive
  · rw [stackGrow_read_old code s hold]
    exact h k hk hold
  · exact (stackGrow_top code s).trans_ne hcode

/-- A push of a new code with room, before the loop's first pop, comes first. -/
theorem driverLoop_delivers_pushed_first {code : EventCode} {s : State} (seen : List EventCode)
    (hlive : NoIdleLive s) (hcode : code ≠ idle) (hnew : s.stk.read s.sp ≠ code)
    (hroom : s.sp < s.params.evCap - 1) :
    ∃ t, (driverLoop recordEvents (s.sp + 2) seen).run [[.evPush code]] s =
      .next (t, some (seen ++ code :: liveEvents s)) ∧ t.sp = 0 := by
  obtain ⟨hfull, -⟩ | ⟨-, hdup, -⟩ | ⟨-, -, -, hgrow⟩ := pushEvent_spec code s
  · exact absurd hroom (Nat.not_lt.mpr hfull)
  · exact absurd hdup hnew
  · obtain ⟨t, hrun, ht⟩ := driverLoop_drains (s.sp + 1)
      (setResult (.push (pushResult code s)) (stackGrow code s)) seen rfl (hlive.stackGrow hcode)
    refine ⟨t, ?_, ht⟩
    rw [← liveEvents_stackGrow, driverLoop_run_after, applyAll_cons, exec, execEvPush, hgrow]
    exact hrun

/-- A push of a new code with room, after `k` pops of the loop, comes after the `k` newest events:
by induction on the pops still to come before it. -/
theorem driverLoop_delivers_pushed_after {code : EventCode} (hcode : code ≠ idle) (k : Nat) :
    ∀ (s : State) (seen : List EventCode), NoIdleLive s → k ≤ s.sp →
      s.stk.read (s.sp - k) ≠ code → s.sp - k < s.params.evCap - 1 →
      ∃ t, (driverLoop recordEvents (s.sp + 2) seen).run
          (List.replicate k [] ++ [[.evPush code]]) s =
        .next (t, some (seen ++ ((liveEvents s).take k ++ code :: (liveEvents s).drop k))) ∧
        t.sp = 0 := by
  induction k with
  | zero =>
    intro s seen hlive _ hnew hroom
    exact driverLoop_delivers_pushed_first seen hlive hcode hnew hroom
  | succ k ih =>
    intro s seen hlive hk hnew hroom
    have hne : s.sp ≠ 0 := by omega
    have hdepth : (popEvent s).sp - k = s.sp - (k + 1) := by rw [popEvent_sp]; omega
    have hbound : (popEvent s).sp + 2 = s.sp + 1 := by rw [popEvent_sp]; omega
    obtain ⟨t, hrun, ht⟩ := ih (setResult (.event (popResult s)) (popEvent s))
      (seen ++ [popResult s]) hlive.popEvent (by simp; omega)
      (by rwa [setResult_stk, setResult_sp, popEvent_stk, hdepth])
      (by rwa [setResult_sp, setResult_params, popEvent_params, hdepth])
    refine ⟨t, ?_, ht⟩
    rw [setResult_sp, hbound, List.append_assoc] at hrun
    rw [List.replicate_succ, List.cons_append,
      driverLoop_record_run (mt hlive.popResult_eq_idle_iff.mp hne), hrun, liveEvents_eq_cons hne]
    rfl

/-- Settles O57: the loop starts with nothing seen. -/
theorem eventPushedMeanwhileIsDeliveredNext : Obligations.EventPushedMeanwhileIsDeliveredNext :=
  fun s k _ hlive hk hcode hnew hroom =>
    driverLoop_delivers_pushed_after hcode k s [] hlive hk hnew hroom

/-! ### Command bytes that the environment packs (30 R58) -/

@[simp] theorem Command.unpack_pack (c : Command) : Command.unpack c.pack = c :=
  (packedCommandIsData c).2

theorem Command.pack_topBits (c : Command) : c.pack.extractLsb' 6 2 ≠ 0b11 := fun h =>
  absurd ((isControl_iff_topBits c.pack).mpr h) (by simp [(packedCommandIsData c).1])

/-! ### Building a request (44 R127, R129(b)) -/

/-- With no other agent, a frame that ENCODE accepts is stored, and answered as it stands there. -/
theorem encodeOut_run_ok {cmd : Byte} {e c : Bool} {payload : List Byte} {s : State}
    (hok : encodeResult s.params cmd e c payload = .ok) :
    ∃ t, (encodeOut (.encode cmd e c payload)).run [] s = .next (t, .ok (txFrame t)) ∧
      txFrame t = wireFrame s.params cmd e c payload := by
  refine ⟨_, ?_, txFrame_storeTx (.encode .ok) _ s⟩
  rw [encodeOut, Program.run_apply_alone, exec_encode_ok hok]
  rfl

/-- Settles O58: a packed Command byte is no control byte, so the default TX_CAP has room for the
frame (O20). -/
theorem buildRequestAnswersTheWireBytes : Obligations.BuildRequestAnswersTheWireBytes := by
  intro store service subfunction payload useCrc s hpayload hcap
  obtain ⟨t, hexec, hresult⟩ := defaultTxCapFitsEveryLegalFrame
    (Command.pack ⟨service, subfunction, .request⟩) (nativeByteOrder store) useCrc payload s
    (Command.pack_topBits _) hpayload hcap
  exact encodeOut_run_ok (encodeResult_of_encode_ok hexec hresult)

/-! ### The Pending frame (44 R120, R121) -/

/-- A frame that ENCODE accepts has at least its four framing bytes, and its length fits one byte. -/
theorem length_wireFrame_of_ok {p : Params} {cmd : Byte} {e c : Bool} {payload : List Byte}
    (hok : encodeResult p cmd e c payload = .ok) (hlegal : p.Legal) :
    4 ≤ (wireFrame p cmd e c payload).length ∧ (wireFrame p cmd e c payload).length ≤ p.txCap ∧
    (BitVec.ofNat 8 (wireFrame p cmd e c payload).length).toNat =
      (wireFrame p cmd e c payload).length := by
  obtain ⟨-, -, hfits⟩ := (encodeResult_ok_iff p cmd e c payload).mp hok
  have hcap := hlegal.txHigh
  refine ⟨?_, hfits, ?_⟩
  · rw [wireFrame_length]
    exact Nat.le_add_right ..
  · rw [BitVec.toNat_ofNat]
    omega

/-- Settles O50: `tx_len` is the length of the frame stored. -/
theorem pendingAnnouncesTheWireLength : Obligations.PendingAnnouncesTheWireLength := by
  intro cmd e c e' c' payload p s t hlegal hexec hresult
  have hok := encodeResult_of_encode_ok hexec hresult
  obtain ⟨hlow, hhigh, hbyte⟩ := length_wireFrame_of_ok hok hlegal
  cases (exec_encode_ok hok).symm.trans hexec
  exact ⟨hlow, hhigh, _, _, rfl, hbyte, by simp, by simp, by simp⟩

/-! ### A request served, announced and retrieved (44 R120 to R122) -/

/-- With no other agent, an announcement is made only when ENCODE accepts both frames, and it holds
them. -/
theorem announce_run_ok {cmd cmd' : Byte} {e c e' c' : Bool} {payload : List Byte}
    {payload' : Nat → List Byte} {s t : State} {a : Announcement}
    (h : (announce (.encode cmd e c payload) fun n => .encode cmd' e' c' (payload' n)).run [] s =
      .next (t, .ok a)) :
    (encodeResult s.params cmd e c payload = .ok ∧
      a.held = wireFrame s.params cmd e c payload) ∧
    (encodeResult s.params cmd' e' c' (payload' a.held.length) = .ok ∧
      a.sent = wireFrame s.params cmd' e' c' (payload' a.held.length)) := by
  rw [announce, Program.run_bind_alone, encodeOut_run_alone, andThen_next] at h
  split_ifs at h with hok
  · simp only [Program.run_bind_alone, encodeOut_run_alone, andThen_next, setResult_params,
      encodeFrame_params] at h
    split_ifs at h with hok'
    · cases h
      exact ⟨⟨hok, rfl⟩, hok', rfl⟩
    · cases h
  · cases h

/-- The turn that serves a request ends announced just when the announcement was made. -/
theorem dispatchPacket_run_announced {table : BitVec 3 → Handler} {e c e' c' : Bool} {p : Packet}
    {s t : State} {a : Announcement} (hstatus : (Command.unpack p.cmd).status = .request)
    (h : (dispatchPacket table e c e' c' p).run [] s = .next (t, .announced a)) :
    (announce (responseFrame table e c p) (pendingFrame e' c' p)).run [] s = .next (t, .ok a) := by
  obtain ⟨u, answer, hrun⟩ :=
    (announce (responseFrame table e c p) (pendingFrame e' c' p)).run_next [] s
  rw [dispatchPacket, hstatus] at h
  simp only [Program.run_bind_alone, hrun, andThen_next, Program.run_done] at h
  cases answer with
  | error why => cases h
  | ok held => cases h; exact hrun

/-- Operations one after another leave the parameters alone (70 R158). -/
theorem applyAll_params (ops : List Instr) :
    ∀ {s t : State}, applyAll ops s = .next t → t.params = s.params := by
  induction ops with
  | nil => intro s t h; cases h; rfl
  | cons i rest ih =>
    intro s t h
    obtain ⟨u, hu⟩ := exec_next i s
    rw [applyAll_cons, hu] at h
    exact (ih h).trans (parametersNeverChange i s u hu).1

/-- A frame that ENCODE accepts decodes, at any block of the same parameters, to its packet: the
round trip (O25) as what a consumer sees. -/
theorem receiveBytes_packetOf {cmd : Byte} {e c : Bool} {payload : List Byte} {v : State}
    (hlegal : v.params.Legal) (hcap : v.params.payloadCap + 3 ≤ v.params.rxCap)
    (hok : encodeResult v.params cmd e c payload = .ok) :
    ∃ u, receiveBytes (wireFrame v.params cmd e c payload) v = .next u ∧
      u.params = v.params ∧ packetOf u = some ⟨cmd, e, c, payload⟩ := by
  obtain ⟨u, hu, hvalid, hcmd, horder, hcrc, -, hpayload⟩ :=
    encodedFrameRoundTrips cmd e c payload v _ v hlegal hcap rfl (exec_encode_ok hok) rfl
  rw [txFrame_storeTx] at hu
  exact ⟨u, hu, applyAll_params _ hu, by
    rw [packetOf, if_pos hvalid, hcmd, horder, hcrc, hpayload]⟩

/-- An announced response, of any Command byte fields and payload, is named by its Pending frame and
retrieved by the pull of as many bytes. -/
theorem announced_retrieved {response : Command} {e c e' c' : Bool} {reply : List Byte} {p : Packet}
    {s t v : State} {a : Announcement} (hlegal : s.params.Legal)
    (hcap : s.params.payloadCap + 3 ≤ s.params.rxCap) (hparams : v.params = s.params)
    (h : (announce (.encode response.pack e c reply) (pendingFrame e' c' p)).run [] s =
      .next (t, .ok a)) :
    ∃ u w q r n, receiveBytes a.sent v = .next u ∧ packetOf u = some q ∧
      Command.unpack q.cmd = { Command.unpack p.cmd with status := .pending } ∧
      q.payload = [n] ∧ n.toNat = a.held.length ∧
      receiveBytes (retrieve n a.held) u = .next w ∧ packetOf w = some r ∧
      Command.unpack r.cmd = response ∧ r.payload = reply := by
  obtain ⟨⟨hok, hheld⟩, hok', hsent⟩ := announce_run_ok h
  obtain ⟨-, -, hn⟩ := length_wireFrame_of_ok hok hlegal
  rw [← hheld] at hn
  rw [← hparams] at hlegal hcap hok hok' hheld hsent
  obtain ⟨u, hu, huparams, hq⟩ := receiveBytes_packetOf hlegal hcap hok'
  rw [← huparams] at hlegal hcap hok hheld
  obtain ⟨w, hw, -, hr⟩ := receiveBytes_packetOf hlegal hcap hok
  have hpull : retrieve (BitVec.ofNat 8 a.held.length) a.held = a.held := by
    rw [retrieve, hn, List.take_length]
  exact ⟨u, w, _, _, _, hsent ▸ hu, hq, Command.unpack_pack _, rfl, hn,
    by rw [hpull, hheld]; exact hw, hr, Command.unpack_pack _, rfl⟩

/-- Settles O59: the response is the handler's reply or the empty one of a failure, and either way
its frame is held and announced. -/
theorem announcedResponseIsRetrieved : Obligations.AnnouncedResponseIsRetrieved := by
  intro table e c e' c' p s t v a hlegal hcap hparams hstatus hrun
  have hannounce := dispatchPacket_run_announced hstatus hrun
  cases hreply : table (Command.unpack p.cmd).service p <;>
  · rw [responseFrame, hreply] at hannounce
    exact announced_retrieved hlegal hcap hparams hannounce

/-! ### The service table (44 R118, R124, R125) -/

/-- Settles O60: each subfunction has its own count of bytes or none, and each other service id its
own entry. -/
theorem readServiceAnswersTheBytes : Obligations.ReadServiceAnswersTheBytes := by
  rintro services p b0 b1 b2 b3 rest view rfl
  have hread {n : Nat} (hcount : readCount (Command.unpack p.cmd).subfunction = some n)
      (hpayload : p.payload = b0 :: b1 :: b2 :: b3 :: rest)
      (hlen : n ≤ (services.resolve (wordOf p.order services.localOrder b0 b1 b2 b3)).length) :
      serviceTable services 0 p =
        some ((services.resolve (wordOf p.order services.localOrder b0 b1 b2 b3)).take n) := by
    rw [serviceTable_zero, readMemory_of_address hcount hpayload, if_pos hlen]
  refine ⟨fun hpayload => ⟨fun hsub hlen => hread (by rw [hsub]; rfl) hpayload hlen,
    fun hsub hlen => hread (by rw [hsub]; rfl) hpayload hlen⟩, fun hsub => ?_,
    fun service handler hne hentry => ?_, fun service hne hentry => ?_⟩
  · rw [serviceTable_zero]
    refine readMemory_of_no_count ?_
    obtain hsub | hsub := hsub <;> rw [hsub] <;> rfl
  · rw [serviceTable_of_ne_zero hne, hentry, Option.getD_some]
  · rw [serviceTable_of_ne_zero hne, hentry, Option.getD_none, defaultHandler]

end Sys2Proof.Machine

/-! ## 60_exceptions.md: the sticky flags, and that every operation completes -/

namespace Sys2Proof.Machine

/-! ### ERR_CLEAR (60 R141) -/

/-- Settles O32: ERR_CLEAR writes the flags, and every other side of the state is outside its
columns. -/
theorem errClearClearsBothFlags : Obligations.ErrClearClearsBothFlags := by
  intro s
  have hexec : exec .errClear s = .next (setResult .none (clearErrors s)) := rfl
  obtain ⟨htx, hrx, hev⟩ := operation_kept hexec nofun
  exact ⟨_, hexec, rfl, rfl, (hrx rfl).sameRx, (hrx rfl).samePacket, (htx nofun).sameTx,
    (hev nofun nofun rfl).sameEvents⟩

/-! ### When a flag rises (60 R137, R140) -/

/-- A push touches `err_ev_full` only on a full stack. -/
theorem pushEvent_errEvFull_or_full (code : EventCode) (s : State) :
    (pushEvent code s).errEvFull = s.errEvFull ∨ s.params.evCap - 1 ≤ s.sp := by
  obtain ⟨hfull, -⟩ | ⟨-, -, -, h⟩ | ⟨-, -, -, h⟩ := pushEvent_spec code s
  · exact .inr hfull
  · exact .inl (by rw [h])
  · exact .inl (by rw [h, stackGrow_errEvFull])

/-- A data byte touches the flags only by the overflow. -/
theorem receiveData_errors (b : Byte) (s : State) :
    SameErrors s (receiveData b s) ∨
      s.rxActive = true ∧ s.params.rxCap ≤ s.rxLen ∧
        (receiveData b s).errEvFull = s.errEvFull := by
  obtain ⟨-, h⟩ | ⟨-, -, h⟩ | ⟨hactive, hfull, h⟩ := receiveData_spec b s <;> rw [h]
  · exact .inl ⟨rfl, rfl⟩
  · exact .inl ⟨rfl, rfl⟩
  · exact .inr ⟨hactive, hfull, rfl⟩

/-- A TAIL touches the flags only by its completion push on a full stack. -/
theorem receiveTail_errors (c e : Bool) (s : State) :
    SameErrors s (receiveTail c e s) ∨
      s.rxActive = true ∧ s.params.evCap - 1 ≤ s.sp ∧
        (receiveTail c e s).errRxOvf = s.errRxOvf := by
  obtain ⟨-, h⟩ | ⟨hactive, -, h⟩ | ⟨-, -, h⟩ := receiveTail_spec c e s <;> rw [h]
  · exact .inl ⟨rfl, rfl⟩
  · have hovf : (acceptFrame c e (closeFrame s)).errRxOvf = s.errRxOvf := by simp [acceptFrame]
    exact (pushEvent_errEvFull_or_full _ _).imp (fun hev => ⟨hovf, hev⟩)
      fun hfull => ⟨hactive, hfull, hovf⟩
  · exact .inl ⟨rfl, rfl⟩

/-- A byte touches the flags only in a frame: a data byte `err_rx_ovf`, with the buffer full, and a
TAIL `err_ev_full`, with the stack full. -/
theorem receiveByte_errors (b : Byte) (s : State) :
    SameErrors s (receiveByte b s) ∨
    (b.toNat ≤ 0xBF ∧ s.rxActive = true ∧ s.params.rxCap ≤ s.rxLen ∧
      (receiveByte b s).errEvFull = s.errEvFull) ∨
    ((0xC0 ≤ b.toNat ∧ b.toNat ≤ 0xC3) ∧ s.rxActive = true ∧ s.params.evCap - 1 ≤ s.sp ∧
      (receiveByte b s).errRxOvf = s.errRxOvf) := by
  obtain ⟨hdata, h⟩ | ⟨hlo, hhi, h⟩ | ⟨-, -, h⟩ | ⟨-, -, h⟩ | ⟨-, h⟩ := receiveByte_cases b s <;>
    rw [h]
  · exact (receiveData_errors b s).imp_right fun hovf => .inl ⟨hdata, hovf⟩
  · exact (receiveTail_errors _ _ s).imp_right fun hev => .inr ⟨⟨hlo, hhi⟩, hev⟩
  · exact .inl ⟨rfl, rfl⟩
  · obtain ⟨-, h⟩ | ⟨-, h⟩ := receiveEscape_spec (b.extractLsb' 0 4) s <;> rw [h] <;>
      exact .inl ⟨rfl, rfl⟩
  · obtain ⟨-, h⟩ | ⟨-, h⟩ := receiveUnknown_spec s <;> rw [h] <;> exact .inl ⟨rfl, rfl⟩

theorem encodeFrame_errors (cmd : Byte) (e c : Bool) (payload : List Byte) (s : State) :
    SameErrors s (encodeFrame cmd e c payload s) := by
  obtain ⟨-, h⟩ | ⟨-, h⟩ := encodeFrame_spec cmd e c payload s <;> rw [h] <;> exact ⟨rfl, rfl⟩

/-- A flag that an operation keeps has not gone from 0 to 1. -/
theorem not_risen {before after : Bool} (hkept : after = before) {P : Prop}
    (hclear : before = false) (hset : after = true) : P :=
  absurd (hclear.symm.trans (hkept.symm.trans hset)) Bool.false_ne_true

/-- Settles O37: every effect keeps both flags, clears both, or is one of the two overflows. -/
theorem flagsRiseOnlyAtTheirConditions : Obligations.FlagsRiseOnlyAtTheirConditions := by
  intro i s t h
  obtain ⟨b, hb, rfl⟩ | ⟨-, rfl⟩ | ⟨cmd, e, c, payload, -, rfl⟩ | ⟨code, hi, rfl⟩ | ⟨-, rfl⟩ |
    ⟨-, rfl⟩ | ⟨-, rfl⟩ := exec_inversion h
  · obtain ⟨hovf, hev⟩ | ⟨hdata, hactive, hfull, hev⟩ | ⟨htail, hactive, hfull, hovf⟩ :=
      receiveByte_errors b s
    · exact ⟨not_risen hovf, not_risen hev⟩
    · exact ⟨fun _ _ => ⟨hactive, hfull, b, hb, hdata⟩, not_risen hev⟩
    · exact ⟨not_risen hovf, fun _ _ => ⟨hfull, .inr ⟨hactive, b, hb, htail⟩⟩⟩
  · exact ⟨fun _ => nofun, fun _ => nofun⟩
  · obtain ⟨hovf, hev⟩ := encodeFrame_errors cmd e c payload s
    exact ⟨not_risen hovf, not_risen hev⟩
  · refine ⟨not_risen (pushEvent_errRxOvf code s), fun hclear hset => ?_⟩
    obtain hkept | hfull := pushEvent_errEvFull_or_full code s
    · exact not_risen hkept hclear hset
    · exact ⟨hfull, .inl ⟨code, hi⟩⟩
  · exact ⟨not_risen (popEvent_errRxOvf s), not_risen (popEvent_errEvFull s)⟩
  · exact ⟨fun _ => nofun, fun _ => nofun⟩
  · exact ⟨not_risen rfl, not_risen rfl⟩

/-! ### Every operation completes (60 R135, R148) -/

/-- Settles O51: each operation's meaning answers a next state. -/
theorem everyOperationCompletes : Obligations.EveryOperationCompletes := exec_next

/-- Settles O53: without a request a step neither applies an operation nor refuses one. -/
theorem idleStepChangesNothing : Obligations.IdleStepChangesNothing := by
  intro s hidle
  obtain ⟨-, hstep⟩ | ⟨r, rest, i, hpending, -⟩ | ⟨r, rest, why, hpending, -⟩ := step_spec s
  · exact hstep
  · cases hidle.symm.trans hpending
  · cases hidle.symm.trans hpending

/-- Settles O54: the request decodes to its operation (O47), the step applies it (O52), and the
operation completes (O51) and keeps the parameters and the requests to come (O42). -/
theorem wellFormedRequestsComplete : Obligations.WellFormedRequestsComplete := by
  intro s i rest hwf hpending
  have hstep := stepAppliesTheDecodedOperation s _ rest i hpending
    (decodeInvertsEncode s.params i hwf)
  obtain ⟨t, hexec⟩ := exec_next i (setPending rest s)
  obtain ⟨hparams, hrest⟩ := parametersNeverChange i _ t hexec
  exact ⟨t, hstep.trans hexec, hrest, hparams⟩

end Sys2Proof.Machine

namespace Sys2Proof.Machine

/-! ### RESET (70 R155, 10 R28) -/

@[simp] theorem Memory.read_nil (i : Nat) : Memory.read [] i = unlistedByte := rfl

@[simp] theorem Slots.read_nil (i : Nat) : Slots.read [] i = idle := rfl

theorem exec_reset (s : State) : exec .reset s = .next (setResult .none (resetBlock s)) := rfl

/-- Settles O33: RESET answers the reset table, whose three arrays list no element, so that every
byte of them reads 0x00 and every slot Idle. -/
theorem resetGivesTheResetTable : Obligations.ResetGivesTheResetTable := by
  intro s
  have hbytes : ∀ i, Memory.read [] i = 0x00 := Memory.read_nil
  have hslots : ∀ i, Slots.read [] i = 0x00 := Slots.read_nil
  exact ⟨setResult .none (resetBlock s), exec_reset s,
    hbytes, rfl, rfl, rfl, rfl, rfl,
    rfl, rfl, rfl, rfl, rfl,
    hbytes, rfl, hslots, rfl, rfl, rfl⟩

end Sys2Proof.Machine
